-- ==== Sys2Proof/Word.lean ====
section
/-! DEFINITION. Word and text types of the DL6: the byte of the link, the 16-bit check words, the 32-bit counters and
the text of the link (00_scope "Conventions", R212). -/

namespace Sys2Proof

/-- One byte of the link (R181). -/
abbrev Byte := BitVec 8

/-- The 16-bit CRC of the link and the 16-bit check word of a stored entry (R181, R164). -/
abbrev Word16 := BitVec 16

/-- The line clock, the two sequence counters and the manifest word, which wrap (R206, R2, R26, R42). -/
abbrev Word32 := BitVec 32

/-- Text, as its character bytes (R212). -/
abbrev Text := List Byte

end Sys2Proof
end

