-- ==== Sys2Proof/Syntax.lean ====
section
/-! DEFINITION. The commands of the DL6: one constructor of `Instr` per row of opcode_table.json, with the names of the
places they speak of. -/

namespace Sys2Proof

/-- A track number: `n : TrackNo` stands for the number `n + 1`, 1 to 24 (R1). -/
abbrev TrackNo := Fin 24

/-- A dock lane: `n : Lane` stands for lane `n + 1`, 1 to 6 (R147). -/
abbrev Lane := Fin 6

/-- The two wrappers (R106). -/
inductive Wrapper where
  | a | b
deriving DecidableEq, Repr

/-- The two labelled faces of a pallet, each with its own head (R129). -/
inductive Face where
  | side | fend
deriving DecidableEq, Repr

/-- The 18 line zones and 4 spur positions (04 "Conveyor Zones and Routing", R79). `gate n` is GATE-(n+1) and `sp k`
is SP-(k+1). -/
inductive Zone where
  | infeed | scan | div1 | feed
  | wrap (w : Wrapper)
  | out (w : Wrapper)
  | merge | label | div2 | sort
  | gate (n : Lane)
  | sp (k : Fin 4)
deriving DecidableEq, Repr

/-- The fields of one tag read as the tag reader reports them, before the tests of R3. -/
structure TagFields where
  product : Nat
  batch : Text
  units : Nat
  order : Nat
  bestBefore : Nat
deriving DecidableEq, Repr

/-- A report of the store: the number of the write it ends, counted from the first one started, and whether that ended
DONE (R174; the number by log 42). -/
structure StoreReport where
  write : Nat
  done : Bool
deriving DecidableEq, Repr

/-- The commands of the block. A request carries the tag byte and the body of its good frame (R181, R216); the other
rows carry what their field device, timer or port reports. -/
inductive Instr where
  -- OBSERVE requests
  | status (tag : Byte) (body : List Byte)
  | readPallet (tag : Byte) (body : List Byte)
  | listTrack (tag : Byte) (body : List Byte)
  | readOrder (tag : Byte) (body : List Byte)
  | listOrders (tag : Byte) (body : List Byte)
  | readDispatchList (tag : Byte) (body : List Byte)
  | readProfile (tag : Byte) (body : List Byte)
  | readRecipe (tag : Byte) (body : List Byte)
  | readLanes (tag : Byte) (body : List Byte)
  | readZones (tag : Byte) (body : List Byte)
  | readWrappers (tag : Byte) (body : List Byte)
  | readSettings (tag : Byte) (body : List Byte)
  -- OPERATE requests
  | newOrder (tag : Byte) (body : List Byte)
  | cancelOrder (tag : Byte) (body : List Byte)
  | closeOrder (tag : Byte) (body : List Byte)
  | authoriseRelease (tag : Byte) (body : List Byte)
  | bindLane (tag : Byte) (body : List Byte)
  | unbindLane (tag : Byte) (body : List Byte)
  | pauseLane (tag : Byte) (body : List Byte)
  | resumeLane (tag : Byte) (body : List Byte)
  | extendCutOff (tag : Byte) (body : List Byte)
  | decideHold (tag : Byte) (body : List Byte)
  | supplyProfile (tag : Byte) (body : List Byte)
  | removePallet (tag : Byte) (body : List Byte)
  | returnPallet (tag : Byte) (body : List Byte)
  | clearZone (tag : Byte) (body : List Byte)
  | confirmZone (tag : Byte) (body : List Byte)
  | restartLine (tag : Byte) (body : List Byte)
  | restoreWrapper (tag : Byte) (body : List Byte)
  | wrapperOffline (tag : Byte) (body : List Byte)
  | wrapperOnline (tag : Byte) (body : List Byte)
  | filmLoaded (tag : Byte) (body : List Byte)
  | restartWrap (tag : Byte) (body : List Byte)
  | releaseUnwrapped (tag : Byte) (body : List Byte)
  | restoreLabeller (tag : Byte) (body : List Byte)
  | inhibitHeads (tag : Byte) (body : List Byte)
  | setClock (tag : Byte) (body : List Byte)
  -- CONFIGURE requests
  | defineProfile (tag : Byte) (body : List Byte)
  | deleteProfile (tag : Byte) (body : List Byte)
  | defineRecipe (tag : Byte) (body : List Byte)
  | deleteRecipe (tag : Byte) (body : List Byte)
  | setTiming (tag : Byte) (body : List Byte)
  | setSite (tag : Byte) (body : List Byte)
  -- SERVICE requests
  | recoverSerials (tag : Byte) (body : List Byte)
  | resetController (tag : Byte) (body : List Byte)
  -- the link
  | unknownRequestKind (kind tag : Byte) (body : List Byte)
  | frameCheckFailed
  | receiveOverrun
  | byteGapTimeout
  | heldFrameTaken
  | frameSent
  -- resets and start-up
  | resetRequest
  | powerOn
  | resetInput
  | startUpEnd
  -- zones and the tag reader
  | eyeMade (z : Zone)
  | eyeCleared (z : Zone)
  | tagRead (read : Option TagFields)
  | tagTimerExpiry
  -- the check; the weight in tenths of a kilogram
  | weightReading (weight : Int) (stable : Bool)
  | weightTimerExpiry
  | frameBegin
  | scanRow (row : Nat) (cells : List Word16)
  | frameEnd
  | scanTimerExpiry
  | holdTimerExpiry
  -- moves and lanes
  | moveTimerExpiry (source : Zone)
  | departureTimeout (n : Lane)
  | laneWaitTimerExpiry
  | minuteTimerExpiry (n : Lane)
  | truckPresentChange (n : Lane) (active : Bool)
  -- the supervisor's inputs
  | keySwitchChange (run setup service : Bool)
  | chainOpens
  | chainCloses
  -- the wrapper stations
  | stationAccepted (w : Wrapper) (number : Byte)
  | stationDone (w : Wrapper) (number : Byte)
  | stationFilmBreak (w : Wrapper) (number : Byte)
  | stationFault (w : Wrapper) (number : Byte)
  | stationStatusReport (w : Wrapper) (number : Byte) (healthy loaded : Bool)
  | acceptanceTimerExpiry (w : Wrapper)
  | passTimerExpiry (w : Wrapper)
  -- the label heads and the label reader
  | headApplied (f : Face)
  | headFault (f : Face)
  | applyTimerExpiry (f : Face)
  | readerText (f : Face) (text : Text)
  | readerNoRead (f : Face)
  | readTimerExpiry
  -- the store, the clock, the supply, the link's bytes
  | storeWriteReport (report : StoreReport)
  | writeTimerExpiry
  | clockTick
  | powerLoss
  | resetInputReleased
  | linkByteReceived (byte : Byte) (framingError : Bool)
deriving DecidableEq, Repr

end Sys2Proof
end

