-- ==== Sys2Proof/Decode.lean ====
section
/-! DEFINITION. The commands that a word spells by the table's bits. No row of opcode_table.json gives bits, so no word
spells a command. -/

namespace Sys2Proof

/-- The command a word of `nbits` bits spells by the bits of the opcode table: none, since the table gives no row bits
(98_reader: "n_rows_with_fixed": 0). -/
def decodeTableWord (_nbits _w : Nat) : Option Instr := none

end Sys2Proof
end

