-- ==== Sys2Proof/Machine/Bytes.lean ====
section
/-! DEFINITION. Bytes of the link: the field encodings of R212, the CRC of R181 and R182, decimal text. -/

namespace Sys2Proof.Machine

/-! ### Writing fields (R212): numbers low byte first -/

def byte (n : Nat) : Byte := BitVec.ofNat 8 n

def u8 (n : Nat) : List Byte := [byte n]

def u16 (n : Nat) : List Byte := [byte n, byte (n / 256)]

def u32 (n : Nat) : List Byte := [byte n, byte (n / 256), byte (n / 65536), byte (n / 16777216)]

/-- 00h clear or no, 01h set or yes. -/
def flagByte (b : Bool) : List Byte := if b then [1] else [0]

/-- A length byte, then the characters. -/
def textBytes (t : Text) : List Byte := byte t.length :: t

/-! ### Reading fields: none when the body ends before the field does (R213) -/

def rdU8 : List Byte → Option (Nat × List Byte)
  | a :: rest => some (a.toNat, rest)
  | _ => none

def rdU16 : List Byte → Option (Nat × List Byte)
  | a :: b :: rest => some (a.toNat + 256 * b.toNat, rest)
  | _ => none

def rdU32 : List Byte → Option (Nat × List Byte)
  | a :: b :: c :: d :: rest => some (a.toNat + 256 * b.toNat + 65536 * c.toNat + 16777216 * d.toNat, rest)
  | _ => none

/-- A text: its length byte may not give more characters than remain. -/
def rdText : List Byte → Option (Text × List Byte)
  | n :: rest => if n.toNat ≤ rest.length then some (rest.take n.toNat, rest.drop n.toNat) else none
  | [] => none

/-- `n` numbers of two bytes each. -/
def rdU16s : Nat → List Byte → Option (List Nat × List Byte)
  | 0, bs => some ([], bs)
  | n + 1, bs => do
    let (x, bs) ← rdU16 bs
    let (xs, bs) ← rdU16s n bs
    some (x :: xs, bs)

/-- `n` numbers of one byte each. -/
def rdU8s : Nat → List Byte → Option (List Nat × List Byte)
  | 0, bs => some ([], bs)
  | n + 1, bs => do
    let (x, bs) ← rdU8 bs
    let (xs, bs) ← rdU8s n bs
    some (x :: xs, bs)

/-- A body read whole: bytes left after the last field make it MALFORMED (R213). -/
def rdEnd {α : Type} (x : α) : List Byte → Option α
  | [] => some x
  | _ :: _ => none

/-! ### The CRC of the link (R181, R182) -/

/-- One bit shifted out of the CRC register: polynomial x^16 + x^12 + x^5 + 1. -/
def crcBit (c : Word16) : Word16 := if c.msb then (c <<< 1) ^^^ 0x1021#16 else c <<< 1

/-- One byte taken, from its most significant bit. -/
def crcByte (c : Word16) (b : Byte) : Word16 :=
  let c := c ^^^ ((b.zeroExtend 16) <<< 8)
  crcBit (crcBit (crcBit (crcBit (crcBit (crcBit (crcBit (crcBit c)))))))

/-- The CRC of a string of bytes: initial value FFFFh, no reflection, no final exclusive-or. -/
def crc (bs : List Byte) : Word16 := bs.foldl crcByte 0xFFFF#16

/-! ### Text (00_scope "Text", R212) -/

def isUpper (b : Byte) : Bool := 0x41 ≤ b && b ≤ 0x5A

def isDigit (b : Byte) : Bool := 0x30 ≤ b && b ≤ 0x39

/-- The text set: A to Z, 0 to 9, space, hyphen, full stop and slash. -/
def inTextSet (b : Byte) : Bool := isUpper b || isDigit b || b == 0x20 || b == 0x2D || b == 0x2E || b == 0x2F

def isText (t : Text) : Bool := t.all inTextSet

/-- A site prefix: 4 characters of A to Z and 0 to 9 (R175). -/
def isPrefix (t : Text) : Bool := t.length == 4 && t.all fun b => isUpper b || isDigit b

def digit (n : Nat) : Byte := byte (0x30 + n % 10)

/-- The last `k` decimal digits of a number, the highest first. -/
def digits : Nat → Nat → Text
  | 0, _ => []
  | k + 1, n => digits k (n / 10) ++ [digit n]

/-- Leading zeros taken away, the last digit kept. -/
def trimZeros : Text → Text
  | a :: b :: rest => if a = 0x30 then trimZeros (b :: rest) else a :: b :: rest
  | t => t

/-- A number in decimal without leading zeros, as an order number is printed (at most ten digits). -/
def decimal (n : Nat) : Text := trimZeros (digits 10 n)

/-- The dispatch serial in text: prefix, hyphen, running number as 8 digits (00_scope "Dispatch serial"). -/
def serialText (sitePrefix : Text) (n : Nat) : Text := sitePrefix ++ [0x2D] ++ digits 8 n

/-- The read-back text: serial, slash, order number (00_scope "Read-back text"). -/
def readBackText (serial : Text) (order : Nat) : Text := serial ++ [0x2F] ++ decimal order

end Sys2Proof.Machine
end

