-- ==== Sys2Proof/Config.lean ====
section
/-! DEFINITION. What one implementation of the DL6 fixes: the capacities and constant times of the spec, and the free
values, which the spec leaves open. A free value is an opaque constant: no proof can see what it is. -/

namespace Sys2Proof.Config

/-- Pallet records in the track (R1). -/
def trackCapacity : Nat := 24
/-- Order records in the book (R25). -/
def bookCapacity : Nat := 16
/-- Notices in the notice queue (R195). -/
def noticeCapacity : Nat := 32
/-- Replies waiting or owed (R184). -/
def replyLimit : Nat := 8
/-- Ceiling of the receive error count (R183). -/
def errorCeiling : Nat := 65535
/-- Numbers asked at one reservation (R134). -/
def reservationBlock : Nat := 100
/-- Low-water point of the reserved range (R134). -/
def lowWater : Nat := 20
/-- Highest reservation mark (R136). -/
def highestMark : Nat := 100000000
/-- Invalid cells above which a frame gives SCAN_FAULT (R58). -/
def invalidLimit : Nat := 32
/-- Highest valid cell of the scanner, in millimetres (R57). -/
def highestCell : Nat := 2500
/-- Rows of the reference grid (R56). -/
def windowRows : Nat := 20
/-- Rows of a scan frame at most (R56). -/
def frameRows : Nat := 48
/-- Highest weight taken, in tenths of a kilogram (R52). -/
def highestWeight : Nat := 30000
/-- Film below which LOW_FILM is sent, in metres (R115). -/
def lowFilmPoint : Nat := 200
/-- Checks a pallet may take (R14). -/
def attemptLimit : Nat := 3
/-- Applies of one face (R140, R142). -/
def applyLimit : Nat := 2
/-- Minutes of a lane at most (R154). -/
def laneMinutes : Nat := 240
/-- Seconds of one minute of a lane (R151). -/
def minuteSeconds : Nat := 60
/-- Seconds of the apply timer of a head (R138). -/
def applySeconds : Nat := 10
/-- Seconds of the read timer (R139). -/
def readSeconds : Nat := 3
/-- Entries of one page of a dispatch list (R49). -/
def pageEntries : Nat := 20

/-- What a write of the site entry that did not complete DONE has left in the mark copy it was writing (R175: "A
part-write damages at most one copy"). -/
inductive PartWrite where
  /-- the copy holds what it held before -/
  | old
  /-- the copy holds the new mark and count -/
  | new
  /-- the copy's check word fails -/
  | broken
deriving DecidableEq, Repr, Inhabited

/-- FREE VALUE. The 16-bit check word SDU computes over an entry's contents (R164): the spec does not give the
algorithm. Applied to the contents as READ PROFILE and READ RECIPE send them (log 13). -/
opaque checkWord : List Byte → Word16

/-- FREE VALUE. The outcome for the mark copy of a site write that failed or was cut off, at the nth draw (log 14). -/
opaque partWrite : Nat → PartWrite

/-- FREE VALUE. The key read at start-up from a profile slot whose write was cut off, at the nth draw (R178, log 15). -/
opaque cutKey : Nat → Word16

end Sys2Proof.Config
end

