-- ==== Sys2Proof/Machine/State.lean ====
section
/-! DEFINITION. The state of the DL6: everything its ten blocks hold, its input pins and field ports, the values after
reset, and the reasons a step could stop. All of it is plain data. -/

namespace Sys2Proof.Machine

/-! ### Timers, times and reasons -/

/-- A timer kept in seconds: stopped, or running with its seconds left (log 7). -/
inductive Timer where
  | stopped
  | running (left : Nat)
deriving DecidableEq, Repr

/-- A lane's minute timer, which may also be held (R147). -/
inductive MinuteTimer where
  | stopped
  | running (left : Nat)
  | held (left : Nat)
deriving DecidableEq, Repr

/-- A line clock value with its CLOCK_UNSET flag (R4, R206). -/
structure Stamp where
  clock : Word32
  unset : Bool
deriving DecidableEq, Repr

/-- The rejection reasons, in the order of the table of R5. -/
inductive Reason where
  | weightLow | weightHigh | noWeight | overhang | underfill | overHeight | noScan | scanShort | scanFault
  | noTag | noProfile | referenceDamaged | noDemand
  | reworkLimit | wrapAbandoned | labelNoRead | labelMismatch | noLane | orderEnded
deriving DecidableEq, Repr

/-! ### The pallet track (TRT) -/

/-- The tag of a record (R3). -/
structure Tag where
  product : Nat
  batch : Text
  units : Nat
  order : Option Nat
  bestBefore : Nat
deriving DecidableEq, Repr

/-- The states of a pallet record (section 1.3). -/
inductive PalletState where
  | entering | checking | held | accepted | wrapping | wrapStopped | wrapped | labelling | labelled | rejected | offLine
deriving DecidableEq, Repr

/-- The profile result of a check (R58). -/
structure ProfileResult where
  overs : Nat
  unders : Nat
  invalid : Nat
  highest : Nat
  degraded : Bool
  part : Bool
deriving DecidableEq, Repr

/-- An order line, named by its order number and line number (R32). -/
structure Assignment where
  order : Nat
  line : Nat
deriving DecidableEq, Repr

/-- A wrap recipe, and the wrap plan copied from it (R168, R64). -/
structure Recipe where
  prestretch : Nat
  bottom : Nat
  up : Nat
  sheet : Bool
  top : Nat
  down : Nat
  film : Nat
deriving DecidableEq, Repr

/-- The result of the last read of a face (section 1.2). -/
inductive FaceResult where
  | notDone | isMatch | noRead | mismatch
deriving DecidableEq, Repr

/-- A face's result and attempt count (section 1.2). -/
structure FaceRecord where
  result : FaceResult
  attempts : Nat
deriving DecidableEq, Repr

/-- Two of a kind: a wrapper each, a face each, a copy each. -/
structure Pair (α : Type) where
  fst : α
  snd : α
deriving DecidableEq, Repr

/-- The pallet record (section 1.2). Its track number is its place in the track. -/
structure Pallet where
  tag : Option Tag
  state : PalletState
  location : Option Zone
  attempts : Nat
  checkSeq : Option Word32
  /-- tenths of a kilogram -/
  gross : Option Nat
  profile : Option ProfileResult
  /-- in the order of R5, without repeats -/
  reasons : List Reason
  assignment : Option Assignment
  orphaned : Bool
  /-- none is the empty plan -/
  plan : Option Recipe
  recipeMissing : Bool
  wrapper : Option Wrapper
  passesDone : Nat
  serial : Option Nat
  faces : Pair FaceRecord
  created : Stamp
  verdictTime : Option Stamp
  labelledTime : Option Stamp
deriving DecidableEq, Repr

/-- What TRT holds (R1, R2, R9, R15). -/
structure Track where
  /-- place n holds the record of track number n + 1 -/
  pallets : Vector (Option Pallet) 24
  /-- oldest first -/
  offLine : List TrackNo
  checkSeq : Word32
  tagTimer : Timer
deriving DecidableEq, Repr

/-! ### The order book (OBK) -/

/-- One line of an order (R28). -/
structure OrderLine where
  number : Nat
  product : Nat
  ordered : Nat
  assigned : Nat
  dispatched : Nat
deriving DecidableEq, Repr

/-- One entry of a dispatch list (R41). -/
structure DispatchEntry where
  serial : Nat
  product : Nat
  batch : Text
  gross : Option Nat
  time : Stamp
deriving DecidableEq, Repr

/-- The states of an order (R27). -/
inductive OrderState where
  | isOpen | bound | complete | cutOff | cancelled
deriving DecidableEq, Repr

/-- The order record (section 2.2). -/
structure Order where
  number : Nat
  destination : Text
  priority : Nat
  bonded : Bool
  authority : Option Text
  creationSeq : Word32
  state : OrderState
  lane : Option Lane
  /-- in ascending order of line number -/
  lines : List OrderLine
  /-- oldest first -/
  dispatch : List DispatchEntry
  manifest : Word32
deriving DecidableEq, Repr

/-- What OBK holds (R25, R26). -/
structure Book where
  /-- in the order of their creation -/
  orders : List Order
  creationSeq : Word32
deriving DecidableEq, Repr

/-! ### Stored data (SDU) -/

/-- A product profile (R166); weights in tenths of a kilogram, heights in millimetres. -/
structure Profile where
  product : Nat
  name : Text
  fullUnits : Nat
  unitWeight : Nat
  tare : Nat
  tolerance : Nat
  /-- row 0 columns 0 to 15, then row 1, to row 19 -/
  grid : List Nat
  windowStart : Nat
  overTolerance : Nat
  underTolerance : Nat
  overLimit : Nat
  underLimit : Nat
  highestAllowed : Nat
  recipe : Nat
deriving DecidableEq, Repr

/-- The eight timing values (R169). -/
structure TimingValues where
  tag : Nat
  scan : Nat
  weight : Nat
  hold : Nat
  move : Nat
  laneWait : Nat
  warning : Nat
  pass : Nat
deriving DecidableEq, Repr

/-- The site entry's contents (R175). -/
structure SiteData where
  sitePrefix : Option Text
  mark : Nat
deriving DecidableEq, Repr

/-- A stored entry (R164). An EMPTY and a VALID entry say whether their check word holds against their contents; the
check word of a DAMAGED one is read by no rule (log 13). -/
inductive Entry (α : Type) where
  | empty (holds : Bool)
  | valid (contents : α) (holds : Bool)
  | damaged
deriving DecidableEq, Repr

/-- A mark copy (R175). -/
structure MarkCopy where
  mark : Nat
  count : Nat
  holds : Bool
deriving DecidableEq, Repr

/-- A profile slot: its key and its entry (R166). -/
structure Slot where
  key : Option Nat
  entry : Entry Profile
deriving DecidableEq, Repr

/-- The name of a stored entry. -/
inductive EntryId where
  | site | timing
  | profile (slot : Fin 64)
  | recipe (n : Fin 16)
deriving DecidableEq, Repr

/-- The new contents of a host job's write (R170). -/
inductive StoreWrite where
  | profile (slot : Fin 64) (p : Profile)
  | clearProfile (slot : Fin 64)
  | recipe (n : Fin 16) (r : Recipe)
  | clearRecipe (n : Fin 16)
  | timing (v : TimingValues)
  | setSite (sitePrefix : Text)
  | recoverSerials (sitePrefix : Text) (mark : Nat)
deriving DecidableEq, Repr

/-- A host job: its job number, the kind byte of its request, its write (R170). -/
structure HostJob where
  number : Nat
  kind : Byte
  write : StoreWrite
deriving DecidableEq, Repr

/-- The host job slot (R170). -/
inductive HostSlot where
  | empty
  | waiting (job : HostJob)
  | inFlight (job : HostJob)
deriving DecidableEq, Repr

/-- The reservation slot (R170); in flight it carries the contents being written, the presented mark plus 100 with the
prefix unchanged (R176). -/
inductive ReservationSlot where
  | empty | waiting
  | inFlight (contents : SiteData)
deriving DecidableEq, Repr

/-- What SDU holds: the stored entries, mark copies and marker, which outlast a reset, and the job slots, write timer and
values in force, which do not. -/
structure Store where
  site : Entry SiteData
  copies : Pair MarkCopy
  profiles : Vector Slot 64
  recipes : Vector (Entry Recipe) 16
  timing : Entry TimingValues
  marker : Option EntryId
  host : HostSlot
  reservation : ReservationSlot
  writeTimer : Bool
  /-- the model's own: how many writes have been started, which tells the report of one from that of another (log 42) -/
  started : Nat
  inForce : TimingValues
deriving DecidableEq, Repr

/-! ### The check unit (CKU) -/

inductive CheckState where
  | idle | capturing | done | abandoned
deriving DecidableEq, Repr

inductive WeightCapture where
  | off | armed | taken | timedOut
deriving DecidableEq, Repr

inductive FrameCapture where
  | off | armed | isOpen | ended | timedOut
deriving DecidableEq, Repr

/-- A set of the scanner heads 1 to 4 (R75). -/
structure Heads where
  h1 : Bool
  h2 : Bool
  h3 : Bool
  h4 : Bool
deriving DecidableEq, Repr

/-- The running counts of a frame (R57). -/
structure Counts where
  overs : Nat
  unders : Nat
  invalid : Nat
  highest : Nat
deriving DecidableEq, Repr

/-- A product with a PROFILE_WANTED query outstanding and the records that wait on it (R72). -/
structure Waiters where
  product : Nat
  tracks : List TrackNo
deriving DecidableEq, Repr

/-- What CKU holds (section 3.1). -/
structure CheckUnit where
  state : CheckState
  track : Option TrackNo
  weight : WeightCapture
  frame : FrameCapture
  weightTimer : Timer
  scanTimer : Timer
  snapshot : Option Profile
  frameInhibit : Heads
  rows : Nat
  counts : Counts
  recipe : Option Nat
  holdTrack : Option TrackNo
  holdTimer : Timer
  holdRecipe : Option Nat
  headInhibit : Heads
  holdEnded : List TrackNo
  waiters : List Waiters
deriving DecidableEq, Repr

/-! ### The zone controller (ZNC) -/

inductive ZoneState where
  | free | awaitingTag | occupied | leaving | reserved | jammed | uncertain | untracked
deriving DecidableEq, Repr

/-- The zone record (R79), with the move timer of the move or gate departure out of the zone and its drive output. -/
structure ZoneRecord where
  state : ZoneState
  record : Option TrackNo
  partner : Option Zone
  interrupted : Bool
  /-- made -/
  eye : Bool
  moveTimer : Timer
  drive : Bool
deriving DecidableEq, Repr

/-- The side a diverter is set to (R81). -/
inductive Side where
  | straight | spur
deriving DecidableEq, Repr

/-- What ZNC holds (R79, R89, R94, R96) and drives (R81, R87, R97). -/
structure ZoneUnit where
  zones : Vector ZoneRecord 22
  route : Option Lane
  laneWait : Timer
  splitter : Wrapper
  div1Out : Side
  div2Out : Side
  routeOut : Option Lane
  /-- gate n open -/
  gates : Vector Bool 6
  infeedReady : Bool
deriving DecidableEq, Repr

/-! ### The wrap sequencer (WSQ) -/

inductive WrapperState where
  | idle | loading | wrapping | paused | discharging | stopped | faulted | offline
deriving DecidableEq, Repr

inductive Load where
  | none
  | track (n : TrackNo)
  | untracked
deriving DecidableEq, Repr

inductive PauseCause where
  | halt | estop | filmOut | filmBreak
deriving DecidableEq, Repr

inductive FaultCause where
  | noResponse | passTimeout | unitFault
deriving DecidableEq, Repr

/-- The commands of a station channel: the six passes and the status query (R111, R215). -/
inductive PassKind where
  | bottom | up | sheet | top | down | cut | statusQuery
deriving DecidableEq, Repr

inductive ChannelState where
  | idle | sent | working
deriving DecidableEq, Repr

/-- The command in flight on a channel (R111). -/
structure InFlight where
  kind : PassKind
  number : Byte
deriving DecidableEq, Repr

/-- The station channel (R111). `acceptance` is the 250 ms acceptance timer running. -/
structure Channel where
  state : ChannelState
  command : Option InFlight
  last : Byte
  resend : Nat
  acceptance : Bool
  pass : Timer
  lastSent : Stamp
deriving DecidableEq, Repr

/-- How a start-up status query ended (R128). -/
inductive Found where
  | report (healthy loaded : Bool)
  | silent
deriving DecidableEq, Repr

/-- The wrapper record (R106) with its channel, the owed reply of RESTORE WRAPPER (R188), the end of its start-up query
(R210) and the mark that the command in flight is the CUT of an abort (log 18). -/
structure WrapperRecord where
  state : WrapperState
  load : Load
  pauseCause : Option PauseCause
  faultCause : Option FaultCause
  sheetDone : Bool
  cutDone : Bool
  abortPending : Bool
  film : Nat
  lowFilmSent : Bool
  dischargeUnderWay : Bool
  abortCut : Bool
  channel : Channel
  owed : Option Byte
  found : Option Found
deriving DecidableEq, Repr

/-! ### The label unit (LBU) -/

inductive LabelState where
  | idle | cycle | waitSerial | stopped
deriving DecidableEq, Repr

/-- The step of a face in the cycle (R129); `waiting` is a face read NO_READ that waits for the end of the round
(R139, log 19). -/
inductive FaceStep where
  | unset | toApply | applying | toRead | reading | waiting | done
deriving DecidableEq, Repr

inductive IssueBlock where
  | noSite | siteDamaged
deriving DecidableEq, Repr

/-- The content of the labels of one cycle (R137). -/
structure LabelContent where
  destination : Text
  order : Nat
  product : Nat
  name : Text
  batch : Text
  bestBefore : Nat
  serial : Text
  readBack : Text
deriving DecidableEq, Repr

/-- What LBU holds (R129). -/
structure LabelUnit where
  state : LabelState
  track : Option TrackNo
  suspended : Bool
  content : Option LabelContent
  steps : Pair FaceStep
  applyTimers : Pair Timer
  readTimer : Timer
  next : Nat
  reservedEnd : Nat
  inFlight : Bool
  block : Option IssueBlock
  exhausted : Bool
deriving DecidableEq, Repr

/-! ### The lane unit (LNU) -/

inductive LaneState where
  | closed | bound | paused | done | ended
deriving DecidableEq, Repr

inductive EndCause where
  | cutOff | cancelled
deriving DecidableEq, Repr

/-- The lane record (R147). -/
structure LaneRecord where
  state : LaneState
  order : Option Nat
  remaining : Nat
  minute : MinuteTimer
  warned : Bool
  truck : Bool
  endCause : Option EndCause
deriving DecidableEq, Repr

/-! ### The line supervisor (LSV) -/

inductive LineState where
  | powerUp | stopped | running | halted
deriving DecidableEq, Repr

inductive KeyPosition where
  | run | setup | service | none
deriving DecidableEq, Repr

inductive ResetKind where
  | powerOn | resetInput | resetRequest
deriving DecidableEq, Repr

inductive LineCause where
  | restart | keyLeftRun | keyReturned | estopOpened
deriving DecidableEq, Repr

/-- What LSV holds (the table at the head of file 10, R208). -/
structure Supervisor where
  line : LineState
  key : KeyPosition
  chainOpen : Bool
  clock : Word32
  unset : Bool
  resetKind : ResetKind
  resetPending : Bool
  /-- the supply is in its range -/
  supply : Bool
  /-- the reset input is asserted -/
  resetInput : Bool
deriving DecidableEq, Repr

/-! ### The link unit (LKU) -/

/-- The reply statuses (R189). -/
inductive Status where
  | ok | accepted | busy | notPermitted | wrongState | malformed | outOfRange | notFound | alreadyExists | full | tooLate
  | inUse | fixed | palletPresent | storeFault
deriving DecidableEq, Repr

inductive PalletEvent where
  | held | accepted | labelled | rejected | returned | dispatched | removed | voided
deriving DecidableEq, Repr

inductive OrderEvent where
  | complete | cutOff | cancelled
deriving DecidableEq, Repr

inductive LaneEvent where
  | warning | ended
deriving DecidableEq, Repr

inductive ZoneEvent where
  | jammed | uncertain | untracked
deriving DecidableEq, Repr

inductive ZoneCause where
  | trackFull | stray | departureTimeout | restart | confirm
deriving DecidableEq, Repr

inductive StationEvent where
  | faulted | lowFilm | filmOut | filmBreak | labellerStopped | strayFrame
deriving DecidableEq, Repr

/-- The units a STATION notice names (R217). -/
inductive StationUnit where
  | wrapper (w : Wrapper)
  | head (f : Face)
  | scanner
deriving DecidableEq, Repr

inductive LabellerCause where
  | headFault | noAnswer
deriving DecidableEq, Repr

inductive StoreEvent where
  | damaged | reservationFailed | serialsExhausted
deriving DecidableEq, Repr

/-- The state of a stored entry (R164). -/
inductive EntryState where
  | empty | valid | damaged
deriving DecidableEq, Repr

/-- What a notice reports: its kind, event and details (R193 table of section 9.6, R217). -/
inductive Event where
  | start (kind : ResetKind) (line : LineState) (key : KeyPosition) (chainOpen : Bool) (damaged : Nat)
      (site : EntryState) (prefixHeld : Bool) (wrappers : Pair WrapperState)
  | pallet (event : PalletEvent) (track : TrackNo) (entered : Option PalletState) (serial : Option Nat)
      (assignment : Option Assignment) (recipeMissing : Bool) (reasons : List Reason)
  | order (event : OrderEvent) (number : Nat) (manifest : Word32) (dispatched listLength orphaned : Nat)
      (shorts : List (Nat × Nat))
  | lane (event : LaneEvent) (lane : Lane) (order : Option Nat) (remaining : Nat) (cause : Option EndCause)
  | zone (event : ZoneEvent) (zone : Zone) (partner : Option Zone) (track : Option TrackNo) (cause : Option ZoneCause)
  | station (event : StationEvent) (unit : StationUnit) (track : Option TrackNo) (pass : Option PassKind)
      (fault : Option FaultCause) (labeller : Option LabellerCause) (film : Nat)
  | store (event : StoreEvent) (entry : EntryId) (key : Option Nat) (track : Option TrackNo) (next reservedEnd : Nat)
  | line (left entered : LineState) (cause : LineCause) (key : KeyPosition) (chainOpen : Bool)
deriving DecidableEq, Repr

/-- A notice: its event, the line clock at its making, and its GAP mark (R194, R195). -/
structure Notice where
  event : Event
  time : Stamp
  gap : Bool
deriving DecidableEq, Repr

/-- The kind, key and details of a query (R192). -/
inductive Question where
  | holdDecision (track : TrackNo) (reasons : List Reason) (left : Nat)
  | profileWanted (product : Nat) (track : TrackNo)
deriving DecidableEq, Repr

/-- An entry of the query list (R192). -/
structure Query where
  question : Question
  made : Stamp
  sent : Bool
deriving DecidableEq, Repr

/-- A frame of the reply path (R188, R191). -/
inductive Answer where
  | reply (tag kind : Byte) (status : Status) (data : List Byte)
  | completion (job : Nat) (kind : Byte) (done : Bool) (time : Stamp)
deriving DecidableEq, Repr

/-- A frame sent by the DL6 (R214). -/
inductive OutFrame where
  | answer (a : Answer)
  | query (q : Query)
  | notice (n : Notice)
deriving DecidableEq, Repr

/-- A good frame received (R181). -/
structure Frame where
  kind : Byte
  tag : Byte
  body : List Byte
deriving DecidableEq, Repr

/-- The receiver, with what it has assembled (R182). `content` and `check` hold the length and the bytes of kind, tag and
body taken so far. -/
inductive Receiver where
  | hunt
  | length (low : Option Byte)
  | content (length : Nat) (got : List Byte)
  | check (length : Nat) (got : List Byte) (low : Option Byte)
deriving DecidableEq, Repr

/-- What LKU holds (R182 to R196). -/
structure Link where
  receiver : Receiver
  gapTimer : Bool
  buffer : Option Frame
  errors : Nat
  /-- replies and completions, oldest first -/
  replies : List Answer
  job : Nat
  queries : List Query
  /-- oldest first -/
  notices : List Notice
  gap : Bool
  sending : Option OutFrame
deriving DecidableEq, Repr

/-! ### Pins, ports and the whole state -/

/-- The levels of the field inputs (00_scope "Connections and supply"). -/
structure Pins where
  eyes : Vector Bool 22
  trucks : Vector Bool 6
  keyRun : Bool
  keySetup : Bool
  keyService : Bool
  chainOpen : Bool
deriving DecidableEq, Repr

/-- A message to a wrapper station (R111): `film` is sent with a film pass. -/
structure StationMessage where
  kind : PassKind
  number : Byte
  prestretch : Nat
  film : Option Nat
deriving DecidableEq, Repr

/-- The last message sent on each field port (log 30). -/
structure Ports where
  station : Pair (Option StationMessage)
  head : Pair (Option LabelContent)
  reader : Option Face
deriving DecidableEq, Repr

/-- The state of the DL6. -/
structure State where
  trt : Track
  obk : Book
  cku : CheckUnit
  znc : ZoneUnit
  wsq : Pair WrapperRecord
  lbu : LabelUnit
  lnu : Vector LaneRecord 6
  sdu : Store
  lku : Link
  lsv : Supervisor
  pins : Pins
  ports : Ports
  /-- free values drawn so far (log 16) -/
  freeCount : Nat
  /-- the commands waiting, first in first out -/
  pending : List Instr
deriving DecidableEq, Repr

/-- A step of the DL6 never stops with a fault: the spec answers, discards or does not take what it cannot do, and a fault
of a station or of the store is a state of the block. There is no constructor. -/
inductive Fault where
deriving DecidableEq, Repr

/-- Reasons a command has no meaning here. -/
inductive Refusal where
  /-- The command has no meaning yet in this model. Raised only by an arm of `exec` that stands for it; safe, since the
  machine stops. No arm raises it. -/
  | notModelled (mnemonic : String)
deriving DecidableEq, Repr

/-! ### The values after reset -/

/-- R24. -/
def Track.reset : Track :=
  { pallets := Vector.replicate 24 none, offLine := [], checkSeq := 0, tagTimer := .stopped }

/-- R50. -/
def Book.reset : Book := { orders := [], creationSeq := 0 }

/-- No head. -/
def Heads.none : Heads := ⟨false, false, false, false⟩

def Counts.zero : Counts := ⟨0, 0, 0, 0⟩

/-- R78; the frame inhibit set by log 12. -/
def CheckUnit.reset : CheckUnit :=
  { state := .idle, track := none, weight := .off, frame := .off, weightTimer := .stopped, scanTimer := .stopped,
    snapshot := none, frameInhibit := Heads.none, rows := 0, counts := Counts.zero, recipe := none, holdTrack := none,
    holdTimer := .stopped, holdRecipe := none, headInhibit := Heads.none, holdEnded := [], waiters := [] }

/-- A FREE zone with its eye clear (R79, R105). -/
def ZoneRecord.free : ZoneRecord :=
  { state := .free, record := none, partner := none, interrupted := false, eye := false, moveTimer := .stopped,
    drive := false }

/-- R105, R208: the diverters are left as they stand. Until the end of start-up the zones stand FREE (log 12). -/
def ZoneUnit.reset (div1 div2 : Side) : ZoneUnit :=
  { zones := Vector.replicate 22 ZoneRecord.free, route := none, laneWait := .stopped, splitter := .b, div1Out := div1,
    div2Out := div2, routeOut := none, gates := Vector.replicate 6 false, infeedReady := false }

/-- R128. -/
def Channel.reset : Channel :=
  { state := .idle, command := none, last := 0, resend := 0, acceptance := false, pass := .stopped, lastSent := ⟨0, true⟩ }

/-- R128; state and load until the end of start-up by log 12. -/
def WrapperRecord.reset : WrapperRecord :=
  { state := .idle, load := .none, pauseCause := none, faultCause := none, sheetDone := false, cutDone := false,
    abortPending := false, film := 0, lowFilmSent := false, dischargeUnderWay := false, abortCut := false,
    channel := Channel.reset, owed := none, found := none }

/-- R146; the range and the block until the end of start-up by log 12. -/
def LabelUnit.reset : LabelUnit :=
  { state := .idle, track := none, suspended := false, content := none, steps := ⟨.unset, .unset⟩,
    applyTimers := ⟨.stopped, .stopped⟩, readTimer := .stopped, next := 0, reservedEnd := 0, inFlight := false,
    block := none, exhausted := false }

/-- R163; the truck-present input until the end of start-up by log 12. -/
def LaneRecord.reset : LaneRecord :=
  { state := .closed, order := none, remaining := 0, minute := .stopped, warned := false, truck := false,
    endCause := none }

/-- The defaults of R169. -/
def TimingValues.defaults : TimingValues :=
  { tag := 3, scan := 8, weight := 8, hold := 15, move := 12, laneWait := 60, warning := 10, pass := 90 }

/-- The store as delivered (R164, R175). -/
def Store.delivered : Store :=
  { site := .valid ⟨none, 0⟩ true, copies := ⟨⟨0, 0, true⟩, ⟨0, 0, true⟩⟩,
    profiles := Vector.replicate 64 ⟨none, .empty true⟩, recipes := Vector.replicate 16 (.empty true),
    timing := .valid TimingValues.defaults true, marker := none, host := .empty, reservation := .empty,
    writeTimer := false, started := 0, inForce := TimingValues.defaults }

/-- R199. -/
def Link.reset : Link :=
  { receiver := .hunt, gapTimer := false, buffer := none, errors := 0, replies := [], job := 0, queries := [],
    notices := [], gap := false, sending := none }

/-- The table at the head of file 10; key and chain until the end of start-up by log 12. -/
def Supervisor.reset (kind : ResetKind) (supply resetInput : Bool) : Supervisor :=
  { line := .powerUp, key := .none, chainOpen := false, clock := 0, unset := true, resetKind := kind,
    resetPending := false, supply := supply, resetInput := resetInput }

/-- No message sent (log 30). -/
def Ports.reset : Ports := { station := ⟨none, none⟩, head := ⟨none, none⟩, reader := none }

/-- All inputs inactive and the chain closed (log 10). -/
def Pins.reset : Pins :=
  { eyes := Vector.replicate 22 false, trucks := Vector.replicate 6 false, keyRun := false, keySetup := false,
    keyService := false, chainOpen := false }

/-- The values every block returns to at a reset, over a store, with the inputs and diverters as they stand and the
commands that wait. The timing values in force stand until the verification sets them (R169, R178; log 53). -/
def State.resetValues (kind : ResetKind) (supply resetInput : Bool) (store : Store) (pins : Pins) (div1 div2 : Side)
    (freeCount : Nat) (pending : List Instr) : State :=
  { trt := Track.reset, obk := Book.reset, cku := CheckUnit.reset, znc := ZoneUnit.reset div1 div2,
    wsq := ⟨WrapperRecord.reset, WrapperRecord.reset⟩, lbu := LabelUnit.reset,
    lnu := Vector.replicate 6 LaneRecord.reset,
    sdu := { store with host := .empty, reservation := .empty, writeTimer := false },
    lku := Link.reset, lsv := Supervisor.reset kind supply resetInput, pins := pins, ports := Ports.reset,
    freeCount := freeCount, pending := pending }

/-- A wrapper whose start-up status query has just been sent as command 1 (R111, R128). -/
def WrapperRecord.startUp : WrapperRecord :=
  { WrapperRecord.reset with
    channel := { Channel.reset with state := .sent, command := some ⟨.statusQuery, 1⟩, last := 1, acceptance := true } }

/-- The part as delivered, right after its first power-on: every block at its reset values, and start-up begun, that is,
the store verified and the status query sent to each station (R208, R210, R128; log 11). -/
def State.reset : State :=
  let s := State.resetValues .powerOn true false Store.delivered Pins.reset .straight .straight 0 []
  { s with
    wsq := ⟨WrapperRecord.startUp, WrapperRecord.startUp⟩
    ports := { Ports.reset with
      station := ⟨some ⟨.statusQuery, 1, 0, none⟩, some ⟨.statusQuery, 1, 0, none⟩⟩ } }

end Sys2Proof.Machine
end

