-- ==== Sys2Proof/Machine/Ops.lean ====
section
/-! DEFINITION. The named operations over the state that the blocks share: reading and writing a record, a zone, a lane, a
wrapper; making a notice, a query; rejecting and retiring a pallet record; the free values. -/

namespace Sys2Proof

/-! ### Places and their numbers -/

/-- The wrapper's number, 1 A and 2 B (R215). -/
def Wrapper.number : Wrapper → Nat
  | .a => 1
  | .b => 2

def Wrapper.other : Wrapper → Wrapper
  | .a => .b
  | .b => .a

/-- A lane as numbered on the link, 1 to 6. -/
def Lane.number (n : Lane) : Nat := n.val + 1

/-- A track number as numbered on the link, 1 to 24. -/
def TrackNo.number (n : TrackNo) : Nat := n.val + 1

/-- The zone codes of R215. -/
def Zone.code : Zone → Nat
  | .infeed => 1
  | .scan => 2
  | .div1 => 3
  | .feed => 4
  | .wrap .a => 5
  | .wrap .b => 6
  | .out .a => 7
  | .out .b => 8
  | .merge => 9
  | .label => 10
  | .div2 => 11
  | .sort => 12
  | .gate n => 13 + n.val
  | .sp k => 19 + k.val

/-- The place of a zone in the table of zone records: its code less 1. -/
def Zone.idx : Zone → Fin 22
  | .infeed => 0
  | .scan => 1
  | .div1 => 2
  | .feed => 3
  | .wrap .a => 4
  | .wrap .b => 5
  | .out .a => 6
  | .out .b => 7
  | .merge => 8
  | .label => 9
  | .div2 => 10
  | .sort => 11
  | .gate n => ⟨12 + n.val, by omega⟩
  | .sp k => ⟨18 + k.val, by omega⟩

/-- The six lanes in order. -/
def Lane.all : List Lane := [0, 1, 2, 3, 4, 5]

/-- The 24 track numbers in order. -/
def TrackNo.all : List TrackNo :=
  [0, 1, 2, 3, 4, 5, 6, 7, 8, 9, 10, 11, 12, 13, 14, 15, 16, 17, 18, 19, 20, 21, 22, 23]

/-- The 22 zones in code order (R104). -/
def Zone.all : List Zone :=
  [.infeed, .scan, .div1, .feed, .wrap .a, .wrap .b, .out .a, .out .b, .merge, .label, .div2, .sort,
   .gate 0, .gate 1, .gate 2, .gate 3, .gate 4, .gate 5, .sp 0, .sp 1, .sp 2, .sp 3]

end Sys2Proof

namespace Sys2Proof.Machine

def Pair.wrapper {α : Type} (p : Pair α) : Wrapper → α
  | .a => p.fst
  | .b => p.snd

def Pair.setWrapper {α : Type} (p : Pair α) (w : Wrapper) (x : α) : Pair α :=
  match w with
  | .a => { p with fst := x }
  | .b => { p with snd := x }

def Pair.face {α : Type} (p : Pair α) : Face → α
  | .side => p.fst
  | .fend => p.snd

def Pair.setFace {α : Type} (p : Pair α) (f : Face) (x : α) : Pair α :=
  match f with
  | .side => { p with fst := x }
  | .fend => { p with snd := x }

/-! ### Timers -/

def Timer.isRunning : Timer → Bool
  | .stopped => false
  | .running _ => true

/-- Seconds left, 0 when the timer is not running (R212). -/
def Timer.left : Timer → Nat
  | .stopped => 0
  | .running n => n

/-- One second passes (log 7). -/
def Timer.tick : Timer → Timer
  | .stopped => .stopped
  | .running n => .running (n - 1)

def MinuteTimer.left : MinuteTimer → Nat
  | .stopped => 0
  | .running n => n
  | .held n => n

def MinuteTimer.tick : MinuteTimer → MinuteTimer
  | .running n => .running (n - 1)
  | t => t

namespace State

/-! ### One update per block -/

def modTrt (f : Track → Track) (s : State) : State := { s with trt := f s.trt }
def modObk (f : Book → Book) (s : State) : State := { s with obk := f s.obk }
def modCku (f : CheckUnit → CheckUnit) (s : State) : State := { s with cku := f s.cku }
def modZnc (f : ZoneUnit → ZoneUnit) (s : State) : State := { s with znc := f s.znc }
def modLbu (f : LabelUnit → LabelUnit) (s : State) : State := { s with lbu := f s.lbu }
def modSdu (f : Store → Store) (s : State) : State := { s with sdu := f s.sdu }
def modLku (f : Link → Link) (s : State) : State := { s with lku := f s.lku }
def modLsv (f : Supervisor → Supervisor) (s : State) : State := { s with lsv := f s.lsv }
def modPins (f : Pins → Pins) (s : State) : State := { s with pins := f s.pins }
def modPorts (f : Ports → Ports) (s : State) : State := { s with ports := f s.ports }

/-- The line clock with its CLOCK_UNSET flag as it stands (R206). -/
def now (s : State) : Stamp := ⟨s.lsv.clock, s.lsv.unset⟩

/-- The part is held in reset: the supply is out of range or the reset input asserted (R208). -/
def inReset (s : State) : Bool := !s.lsv.supply || s.lsv.resetInput

/-- Field arrivals are taken: not in POWER_UP (R210). -/
def taking (s : State) : Bool := s.lsv.line != .powerUp

def isRunning (s : State) : Bool := s.lsv.line == .running

/-! ### Pallet records -/

/-- The record of a track number, if one holds it. -/
def pallet (s : State) (n : TrackNo) : Option Pallet := s.trt.pallets[n]

def putPallet (n : TrackNo) (p : Option Pallet) (s : State) : State :=
  s.modTrt fun t => { t with pallets := t.pallets.set n p }

/-- Change the record of a track number; an event for a number that no record holds is discarded (R8). -/
def modPallet (n : TrackNo) (f : Pallet → Pallet) (s : State) : State :=
  match s.pallet n with
  | some p => s.putPallet n (some (f p))
  | none => s

/-- The track numbers that records hold, in ascending order. -/
def tracks (s : State) : List TrackNo := TrackNo.all.filter fun n => (s.pallet n).isSome

/-- Records held (R23). -/
def recordCount (s : State) : Nat := s.tracks.length

/-- The state of the record of a track number, none when no record holds it. -/
def palletState (s : State) (n : TrackNo) : Option PalletState := (s.pallet n).map (·.state)

/-! ### Zones -/

def zone (s : State) (z : Zone) : ZoneRecord := s.znc.zones[z.idx]

def putZone (z : Zone) (r : ZoneRecord) (s : State) : State :=
  s.modZnc fun u => { u with zones := u.zones.set z.idx r }

def modZone (z : Zone) (f : ZoneRecord → ZoneRecord) (s : State) : State := s.putZone z (f (s.zone z))

/-- Zone z is OCCUPIED by a record, which is given. -/
def occupant (s : State) (z : Zone) : Option TrackNo :=
  if (s.zone z).state = .occupied then (s.zone z).record else none

def isFree (s : State) (z : Zone) : Bool := (s.zone z).state == .free

/-- Make a zone FREE with no record and no partner; its recorded eye is kept. -/
def freeZone (z : Zone) (s : State) : State :=
  s.modZone z fun r => { ZoneRecord.free with eye := r.eye }

/-- Make a zone UNTRACKED; its recorded eye is kept. -/
def untrackZone (z : Zone) (s : State) : State :=
  s.modZone z fun r => { ZoneRecord.free with eye := r.eye, state := .untracked }

/-! ### Wrappers and lanes -/

def wrapper (s : State) (w : Wrapper) : WrapperRecord := s.wsq.wrapper w

def putWrapper (w : Wrapper) (r : WrapperRecord) (s : State) : State := { s with wsq := s.wsq.setWrapper w r }

def modWrapper (w : Wrapper) (f : WrapperRecord → WrapperRecord) (s : State) : State :=
  s.putWrapper w (f (s.wrapper w))

def lane (s : State) (n : Lane) : LaneRecord := s.lnu[n]

def putLane (n : Lane) (r : LaneRecord) (s : State) : State := { s with lnu := s.lnu.set n r }

def modLane (n : Lane) (f : LaneRecord → LaneRecord) (s : State) : State := s.putLane n (f (s.lane n))

/-! ### Orders -/

/-- The order of a number, if it is in the book. -/
def order (s : State) (number : Nat) : Option Order := s.obk.orders.find? (·.number == number)

def modOrder (number : Nat) (f : Order → Order) (s : State) : State :=
  s.modObk fun b => { b with orders := b.orders.map fun o => if o.number = number then f o else o }

/-! ### Notices (R194, R195) -/

/-- Make a notice: placed at the end of the queue with the GAP mark after a loss, or discarded when the queue is full. -/
def notify (e : Event) (s : State) : State :=
  if s.lku.notices.length < Config.noticeCapacity then
    s.modLku fun l => { l with notices := l.notices ++ [⟨e, s.now, l.gap⟩], gap := false }
  else
    s.modLku fun l => { l with gap := true }

/-! ### The reply path (R184, R188) -/

/-- Place a reply or completion at the end of the reply path. -/
def place (a : Answer) (s : State) : State := s.modLku fun l => { l with replies := l.replies ++ [a] }

/-- Places owed in the reply path: the RESTORE WRAPPER requests whose status query is in flight (R188). -/
def owedCount (s : State) : Nat :=
  (if s.wsq.fst.owed.isSome then 1 else 0) + (if s.wsq.snd.owed.isSome then 1 else 0)

end State

def Answer.isReply : Answer → Bool
  | .reply .. => true
  | .completion .. => false

namespace State

/-- Replies waiting or owed; completions do not count (R188). -/
def replyCount (s : State) : Nat := (s.lku.replies.filter Answer.isReply).length + s.owedCount

/-! ### Queries (R192, R193) -/

/-- Make a query: placed at the end of the list with its sent mark clear. -/
def ask (q : Question) (s : State) : State :=
  s.modLku fun l => { l with queries := l.queries ++ [⟨q, s.now, false⟩] }

end State

def Question.isHoldOf (n : TrackNo) : Question → Bool
  | .holdDecision m _ _ => m == n
  | .profileWanted _ _ => false

def Question.isProfileOf (product : Nat) : Question → Bool
  | .holdDecision _ _ _ => false
  | .profileWanted p _ => p == product

namespace State

/-- Withdraw the queries that a test names: removed from the list, unsent if not yet sent. -/
def withdraw (which : Question → Bool) (s : State) : State :=
  s.modLku fun l => { l with queries := l.queries.filter fun q => !which q.question }

def profileAsked (s : State) (product : Nat) : Bool := s.lku.queries.any (·.question.isProfileOf product)

/-- Withdraw the PROFILE_WANTED query of a product; its waiter set is dropped (R72, R74). -/
def withdrawProfile (product : Nat) (s : State) : State :=
  (s.withdraw (Question.isProfileOf product)).modCku fun c =>
    { c with waiters := c.waiters.filter fun w => w.product != product }

/-- A record leaves the waiter set it is in, at its verdict or retirement; when it was the last waiter the query is
withdrawn (R72, R74). -/
def stopWaiting (n : TrackNo) (s : State) : State :=
  let left := s.modCku fun c =>
    { c with waiters := c.waiters.map fun w => { w with tracks := w.tracks.filter (· != n) } }
  (s.cku.waiters.filter fun w => w.tracks.contains n && w.tracks.all (· == n)).foldl
    (fun s w => s.withdrawProfile w.product) left

/-! ### Free values -/

/-- Draw a fresh index for a free value (log 16). -/
def draw (s : State) : Nat × State := (s.freeCount, { s with freeCount := s.freeCount + 1 })

end State

/-! ### Reasons (R5) -/

/-- The codes of R215, which follow the order of the table of R5. -/
def Reason.code : Reason → Nat
  | .weightLow => 1
  | .weightHigh => 2
  | .noWeight => 3
  | .overhang => 4
  | .underfill => 5
  | .overHeight => 6
  | .noScan => 7
  | .scanShort => 8
  | .scanFault => 9
  | .noTag => 10
  | .noProfile => 11
  | .referenceDamaged => 12
  | .noDemand => 13
  | .reworkLimit => 14
  | .wrapAbandoned => 15
  | .labelNoRead => 16
  | .labelMismatch => 17
  | .noLane => 18
  | .orderEnded => 19

/-- The overridable group of the table of R5. -/
def Reason.overridable (r : Reason) : Bool := r.code ≤ 9

/-- Add a reason to a set of reasons kept in the order of R5; one already in it leaves it as it was. -/
def addReason (r : Reason) : List Reason → List Reason
  | [] => [r]
  | q :: rest =>
    if r.code < q.code then r :: q :: rest
    else if r = q then q :: rest
    else q :: addReason r rest

namespace State

/-- A block adds a reason to a record. -/
def addReasonTo (n : TrackNo) (r : Reason) (s : State) : State :=
  s.modPallet n fun p => { p with reasons := addReason r p.reasons }

/-! ### The changes of a pallet record that several blocks make -/

/-- The PALLET notice of a change of state or retirement (R7): the assignment with ACCEPTED and DISPATCHED, the reasons
with REJECTED, RECIPE_MISSING with ACCEPTED (R64). -/
def palletEvent (event : PalletEvent) (n : TrackNo) (p : Pallet) (entered : Option PalletState) : Event :=
  .pallet event n entered p.serial (if event = .accepted ∨ event = .dispatched then p.assignment else none)
    (event == .accepted && p.recipeMissing) (if event = .rejected then p.reasons else [])

/-- Put a record into a state and make its PALLET notice (R7). -/
def enter (n : TrackNo) (st : PalletState) (event : PalletEvent) (s : State) : State :=
  match s.pallet n with
  | some p =>
    let p := { p with state := st }
    (s.putPallet n (some p)).notify (palletEvent event n p (some st))
  | none => s

end State

/-- Change one line of an order. -/
def Order.modLine (line : Nat) (f : OrderLine → OrderLine) (o : Order) : Order :=
  { o with lines := o.lines.map fun l => if l.number = line then f l else l }

namespace State

/-- Release a record's assignment, if it holds one: the line's assigned count falls by one (R34). -/
def releaseAssignment (n : TrackNo) (s : State) : State :=
  match s.pallet n with
  | some p =>
    match p.assignment with
    | some a =>
      (s.modOrder a.order (Order.modLine a.line fun l => { l with assigned := l.assigned - 1 })).modPallet n
        fun p => { p with assignment := none }
    | none => s
  | none => s

/-- A record becomes REJECTED, with a reason if one is given: its assignment is released (R34), REWORK_LIMIT is added when
its attempts count is 3 (R14), and the PALLET notice REJECTED is made (R7). -/
def reject (n : TrackNo) (reason : Option Reason) (s : State) : State :=
  let s := match reason with
    | some r => s.addReasonTo n r
    | none => s
  let s := s.releaseAssignment n
  let s := match s.pallet n with
    | some p => if p.attempts = Config.attemptLimit then s.addReasonTo n .reworkLimit else s
    | none => s
  s.enter n .rejected .rejected

/-- Retirement ends everything still waiting on a record and frees its track number (R19). -/
def retire (n : TrackNo) (s : State) : State :=
  let s := (s.withdraw (Question.isHoldOf n)).stopWaiting n
  let s := if s.cku.track = some n then
      s.modCku fun c => { c with
        state := .idle, track := none, weight := .off, frame := .off, weightTimer := .stopped,
        scanTimer := .stopped, snapshot := none }
    else s
  let s := if s.cku.holdTrack = some n then
      s.modCku fun c => { c with holdTrack := none, holdTimer := .stopped }
    else s
  let s := s.modCku fun c => { c with holdEnded := c.holdEnded.filter (· != n) }
  s.putPallet n none

end State

end Sys2Proof.Machine
end

