-- ==== Sys2Proof/Machine/Flags.lean ====
section
/-! DEFINITION. The tests and marks the rules compute from state: class admission, the counts and tests of a scan frame,
the weight tests, the next step of a wrap plan, the manifest fold, the release conditions, the infeed-ready condition. -/

namespace Sys2Proof.Machine

/-! ### The class check (R186, R216) -/

inductive Class where
  | observe | operate | configure | service
deriving DecidableEq, Repr

/-- R186; NONE counts as SERVICE. -/
def Class.admitted : Class → KeyPosition → Bool
  | .observe, _ => true
  | .operate, .run => true
  | .operate, .setup => true
  | .operate, _ => false
  | .configure, .setup => true
  | .configure, _ => false
  | .service, .service => true
  | .service, .none => true
  | .service, _ => false

/-- The reading of the three key switch inputs (R200). -/
def keyReading (run setup service : Bool) : KeyPosition :=
  match run, setup, service with
  | true, false, false => .run
  | false, true, false => .setup
  | false, false, true => .service
  | _, _, _ => .none

/-! ### The scan frame (R56 to R58) -/

def Heads.any (h : Heads) : Bool := h.h1 || h.h2 || h.h3 || h.h4

/-- Column c belongs to an inhibited head: four columns to a head (section 3.1). -/
def Heads.inhibits (h : Heads) (column : Nat) : Bool :=
  if column < 4 then h.h1 else if column < 8 then h.h2 else if column < 12 then h.h3 else h.h4

/-- One cell read (R57). `reference` is the matching reference height, none outside the window. -/
def Counts.cell (p : Profile) (part : Bool) (reference : Option Nat) (value : Nat) (c : Counts) : Counts :=
  if value > Config.highestCell then
    if reference.isSome then { c with invalid := c.invalid + 1 } else c
  else
    let c := { c with highest := max c.highest value }
    match reference with
    | none => c
    | some h =>
      if value > h + p.overTolerance then { c with overs := c.overs + 1 }
      else if value + p.underTolerance < h && !part then { c with unders := c.unders + 1 }
      else c

/-- Row r of a frame lies in the window of a profile (R56). -/
def Profile.windowRow (p : Profile) (r : Nat) : Bool := p.windowStart ≤ r && r ≤ p.windowStart + 19

/-- The reference height of a cell of row r, none outside the window (R56). -/
def Profile.reference (p : Profile) (r column : Nat) : Option Nat :=
  if p.windowRow r then some (p.grid.getD (16 * (r - p.windowStart) + column) 0) else none

/-- One row taken: the columns of the heads not inhibited are read, in order (R56). -/
def Counts.row (p : Profile) (part : Bool) (inhibit : Heads) (r : Nat) : Nat → List Word16 → Counts → Counts
  | _, [], c => c
  | column, v :: rest, c =>
    let c := if inhibit.inhibits column then c else c.cell p part (p.reference r column) v.toNat
    Counts.row p part inhibit r (column + 1) rest c

/-- The frame tests of R58 at the end of a frame: SCAN_FAULT, then SCAN_SHORT. -/
def frameReasons (p : Profile) (counts : Counts) (rows : Nat) (rowFault : Bool) : List Reason :=
  (if counts.invalid > Config.invalidLimit || rowFault then [.scanFault] else []) ++
    (if rows < p.windowStart + Config.windowRows then [.scanShort] else [])

/-! ### The tests of the verdict (R61) -/

/-- Expected gross weight in tenths of a kilogram. -/
def Profile.expected (p : Profile) (units : Nat) : Nat := p.tare + units * p.unitWeight

def weightReasons (p : Profile) (units gross : Nat) : List Reason :=
  (if gross + p.tolerance < p.expected units then [.weightLow] else []) ++
    (if gross > p.expected units + p.tolerance then [.weightHigh] else [])

def heightReasons (p : Profile) (r : ProfileResult) : List Reason :=
  (if r.overs > p.overLimit then [.overhang] else []) ++ (if r.unders > p.underLimit then [.underfill] else []) ++
    (if r.highest > p.highestAllowed then [.overHeight] else [])

/-! ### The next step of a wrap plan (R110) -/

/-- Film passes of a plan. -/
def Recipe.passes (r : Recipe) : Nat := r.bottom + r.up + r.top + r.down

/-- The first row of the table of R110 whose progress matches; none when nothing remains. -/
def nextPass (plan : Option Recipe) (done : Nat) (sheetDone cutDone : Bool) : Option PassKind :=
  match plan with
  | none => none
  | some r =>
    let b := r.bottom
    let bu := b + r.up
    let but := bu + r.top
    let total := but + r.down
    if done < b then some .bottom
    else if done < bu then some .up
    else if done = bu && r.sheet && !sheetDone then some .sheet
    else if done < but && (sheetDone || !r.sheet) then some .top
    else if but ≤ done && done < total then some .down
    else if done = total && (0 < total || r.sheet) && !cutDone then some .cut
    else none

/-- BOTTOM, UP, TOP and DOWN use counted film (R109, R115). -/
def PassKind.isFilm : PassKind → Bool
  | .bottom | .up | .top | .down => true
  | .sheet | .cut | .statusQuery => false

/-! ### The order book -/

/-- The fold of a serial into a manifest word: one bit to the left round, then the running number added (R42). -/
def foldSerial (word : Word32) (serial : Nat) : Word32 := word.rotateLeft 1 + BitVec.ofNat 32 serial

def OrderState.live : OrderState → Bool
  | .isOpen | .bound => true
  | .complete | .cutOff | .cancelled => false

def Order.sum (o : Order) (f : OrderLine → Nat) : Nat := (o.lines.map f).sum

/-- Every line dispatched in full (R43). -/
def Order.isComplete (o : Order) : Bool := o.lines.all fun l => l.dispatched == l.ordered

/-- The short counts of an ended order, by line number (R39). -/
def Order.shorts (o : Order) : List (Nat × Nat) := o.lines.map fun l => (l.number, l.ordered - l.dispatched)

/-! ### The release test and the infeed-ready output -/

namespace State

/-- The release test of lane n (R158): the record released, when every condition holds. -/
def releaseTest (s : State) (n : Lane) : Option TrackNo :=
  match s.occupant (.gate n) with
  | none => none
  | some t =>
    match s.pallet t, (s.lane n).order with
    | some p, some number =>
      match p.assignment, s.order number with
      | some a, some o =>
        if p.state = .labelled ∧ p.orphaned = false ∧ (s.lane n).state = .bound ∧ a.order = number ∧
            (s.lane n).truck = true ∧ (o.bonded = false ∨ o.authority.isSome = true) ∧ s.lsv.line = .running then
          some t
        else none
      | _, _ => none
    | _, _ => none

/-- The condition of the infeed-ready output (R87). -/
def infeedCondition (s : State) : Bool :=
  s.isFree .infeed && s.isRunning && (s.recordCount < Config.trackCapacity || !s.trt.offLine.isEmpty)

/-- Test the infeed-ready output anew (R87). -/
def testInfeed (s : State) : State := s.modZnc fun u => { u with infeedReady := s.infeedCondition }

end State

/-- The release hold of a lane (R162). -/
inductive ReleaseHold where
  | noPallet | stranded | lanePaused | truckAbsent | noAuthority | lineNotRunning
deriving DecidableEq, Repr

/-- The first unmet condition for the pallet at GATE-n, in the order of R162; none when none of the six is unmet. -/
def State.releaseHold (s : State) (n : Lane) : Option ReleaseHold :=
  let l := s.lane n
  match s.occupant (.gate n) with
  | none => some .noPallet
  | some t =>
    let orphaned := match s.pallet t with | some p => p.orphaned | none => false
    let wants := match l.order.bind s.order with | some o => o.bonded && o.authority.isNone | none => false
    if orphaned then some .stranded
    else if l.state = .paused then some .lanePaused
    else if !l.truck then some .truckAbsent
    else if wants then some .noAuthority
    else if !s.isRunning then some .lineNotRunning
    else none

end Sys2Proof.Machine
end

