-- ==== Sys2Proof/Machine/Store.lean ====
section
/-! DEFINITION. The Stored Data Unit (file 08): reading an entry with its check word, marking it DAMAGED, the job slots,
the start of a write, the mark copies, and the verification at start-up. -/

namespace Sys2Proof.Machine

/-! ### Slots and keys (R166) -/

/-- The 64 profile slots in order. -/
def Slot.all : List (Fin 64) := (List.range 64).filterMap fun n => if h : n < 64 then some ⟨n, h⟩ else none

/-- The 16 recipe entries in order; entry `n` is recipe number `n + 1`. -/
def Recipe.all : List (Fin 16) := (List.range 16).filterMap fun n => if h : n < 16 then some ⟨n, h⟩ else none

/-- Recipe number 1 to 16 to its entry; recipe 0 has none (R168). -/
def recipeEntry (number : Nat) : Option (Fin 16) :=
  if h : 1 ≤ number ∧ number ≤ 16 then some ⟨number - 1, by omega⟩ else none

def Entry.state {α : Type} : Entry α → EntryState
  | .empty _ => .empty
  | .valid _ _ => .valid
  | .damaged => .damaged

/-- The slot that holds a key (R166). -/
def Store.slotOf (d : Store) (product : Nat) : Option (Fin 64) :=
  Slot.all.find? fun i => d.profiles[i].key == some product

/-- The slot a profile write goes to (R167): the one holding the key, else the lowest EMPTY one, else the lowest DAMAGED
one with key none. -/
def Store.slotFor (d : Store) (product : Nat) : Option (Fin 64) :=
  (d.slotOf product).or <|
    (Slot.all.find? fun i => d.profiles[i].entry.state == .empty).or <|
      Slot.all.find? fun i => d.profiles[i].entry.state == .damaged && d.profiles[i].key.isNone

/-- A VALID profile slot names recipe `number` (R168 IN_USE). -/
def Store.recipeInUse (d : Store) (number : Nat) : Bool :=
  Slot.all.any fun i => match d.profiles[i].entry with
    | .valid p _ => p.recipe == number
    | _ => false

/-- The stored entries marked DAMAGED, in the order site, timing, profile slots, recipes (R217; log 17). -/
def Store.damagedEntries (d : Store) : List EntryId :=
  (if d.site.state = .damaged then [.site] else []) ++ (if d.timing.state = .damaged then [.timing] else []) ++
    (Slot.all.filter fun i => d.profiles[i].entry.state == .damaged).map .profile ++
    (Recipe.all.filter fun i => d.recipes[i].state == .damaged).map .recipe

/-- The key of a profile slot, for the notices that name it (R165). -/
def Store.keyOf (d : Store) : EntryId → Option Nat
  | .profile i => d.profiles[i].key
  | _ => none

/-- Mark an entry DAMAGED; a profile slot keeps its key (R166). -/
def Store.mark (id : EntryId) (d : Store) : Store :=
  match id with
  | .site => { d with site := .damaged }
  | .timing => { d with timing := .damaged }
  | .profile i => { d with profiles := d.profiles.set i { d.profiles[i] with entry := .damaged } }
  | .recipe i => { d with recipes := d.recipes.set i .damaged }

/-! ### The mark copies (R175) -/

/-- Copy 1 is the one a site write writes first: a copy whose check word fails, copy 1 when both fail; otherwise the copy
with the lower write count, copy 1 when the counts are equal. -/
def writesFirst (c : Pair MarkCopy) : Bool :=
  if !c.fst.holds then true
  else if !c.snd.holds then false
  else c.fst.count ≤ c.snd.count

/-- The copies after a write of a mark whose part in the copy ended as given; a write count has no highest value
(log 46). -/
def writeCopy (mark : Nat) (part : Config.PartWrite) (c : Pair MarkCopy) : Pair MarkCopy :=
  let ended (old : MarkCopy) (other : MarkCopy) : MarkCopy := match part with
    | .old => old
    | .new => { mark := mark, count := other.count + 1, holds := true }
    | .broken => { old with holds := false }
  if writesFirst c then { c with fst := ended c.fst c.snd } else { c with snd := ended c.snd c.fst }

/-- The mark floor: the highest mark of a copy whose check word holds, or none (R175). -/
def markFloor (c : Pair MarkCopy) : Option Nat :=
  match c.fst.holds, c.snd.holds with
  | true, true => some (max c.fst.mark c.snd.mark)
  | true, false => some c.fst.mark
  | false, true => some c.snd.mark
  | false, false => none

/-! ### Verification at start-up (R178) -/

/-- An entry whose check word fails is marked DAMAGED. -/
def Entry.verified {α : Type} : Entry α → Entry α
  | .valid _ false => .damaged
  | .empty false => .damaged
  | e => e

/-- The key a DAMAGED slot keeps: within 1 to 65535, held by no VALID slot, read by no lower-numbered DAMAGED slot. -/
def Store.keptKey (d : Store) (i : Fin 64) : Option Nat :=
  let clash (k : Nat) : Bool := Slot.all.any fun j =>
    d.profiles[j].key == some k &&
      (d.profiles[j].entry.state == .valid || (d.profiles[j].entry.state == .damaged && j.val < i.val))
  match d.profiles[i].key with
  | some k => if 1 ≤ k ∧ k ≤ 65535 ∧ clash k = false then some k else none
  | none => none

/-- Every entry verified; the entry named by the marker marked DAMAGED and the marker cleared; then the keys of the DAMAGED
slots settled; the values in force set from the timing entry (R178, R169). -/
def Store.verify (d : Store) : Store :=
  let d := match d.marker with
    | some id => { d.mark id with marker := none }
    | none => d
  let d := { d with
    site := d.site.verified
    timing := d.timing.verified
    profiles := Slot.all.foldl (fun (v : Vector Slot 64) (i : Fin 64) => v.set i { v[i] with entry := v[i].entry.verified }) d.profiles
    recipes := Recipe.all.foldl (fun (v : Vector (Entry Recipe) 16) (i : Fin 16) => v.set i v[i].verified) d.recipes }
  { d with
    profiles := Slot.all.foldl (fun (v : Vector Slot 64) (i : Fin 64) =>
      if d.profiles[i].entry.state = .damaged then v.set i { v[i] with key := d.keptKey i } else v) d.profiles
    inForce := match d.timing with
      | .valid v _ => v
      | _ => TimingValues.defaults }

namespace State

/-! ### Marking an entry DAMAGED at a read (R165, R172, R135) -/

def storeNotice (event : StoreEvent) (id : EntryId) (track : Option TrackNo) (s : State) : State :=
  s.notify (.store event id (s.sdu.keyOf id) track 0 0)

/-- A reservation ended FAILED, told to LBU: reservation in flight cleared, reserved end kept, issue block SITE_DAMAGED;
STORE notice reservation FAILED, which names the site entry (R134, R174; log 48). -/
def reservationFailed (s : State) : State :=
  (s.modLbu fun l => { l with inFlight := false, block := some .siteDamaged }).storeNotice .reservationFailed .site none

/-- A read found a check word failing: the entry is marked DAMAGED with a STORE notice DAMAGED. For the site entry the issue
block becomes SITE_DAMAGED and a waiting reservation is dropped and ends FAILED (R172). -/
def damageAtRead (id : EntryId) (s : State) : State :=
  let s := (s.modSdu (Store.mark id)).storeNotice .damaged id none
  match id with
  | .site =>
    let s := s.modLbu fun l => { l with block := some .siteDamaged }
    match s.sdu.reservation with
    | .waiting => (s.modSdu fun d => { d with reservation := .empty }).reservationFailed
    | _ => s
  | _ => s

/-- What a read of an entry returns (R165): its contents with the check word holding, DAMAGED, or EMPTY. -/
def readEntry {α : Type} (id : EntryId) (e : Entry α) (s : State) : Entry α × State :=
  match e with
  | .valid _ false => (.damaged, s.damageAtRead id)
  | e => (e, s)

/-- Read the profile of a product (R166): EMPTY stands for no slot too. -/
def readProfileOf (product : Nat) (s : State) : Entry Profile × State :=
  match s.sdu.slotOf product with
  | some i => s.readEntry (.profile i) s.sdu.profiles[i].entry
  | none => (.empty true, s)

def readRecipeEntry (i : Fin 16) (s : State) : Entry Recipe × State := s.readEntry (.recipe i) s.sdu.recipes[i]

def readSite (s : State) : Entry SiteData × State := s.readEntry .site s.sdu.site

def readTiming (s : State) : Entry TimingValues × State := s.readEntry .timing s.sdu.timing

/-! ### Job slots and the start of a write (R170, R171) -/

end State

def StoreWrite.entry : StoreWrite → EntryId
  | .profile i _ => .profile i
  | .clearProfile i => .profile i
  | .recipe i _ => .recipe i
  | .clearRecipe i => .recipe i
  | .timing _ => .timing
  | .setSite _ => .site
  | .recoverSerials _ _ => .site

/-- The contents of a site write, if it is one (R175, R177). -/
def StoreWrite.site : StoreWrite → Option SiteData
  | .setSite p => some ⟨some p, 1⟩
  | .recoverSerials p m => some ⟨some p, m⟩
  | _ => none

def Store.hostInFlight (d : Store) : Option HostJob :=
  match d.host with
  | .inFlight j => some j
  | _ => none

/-- The contents of the reservation in flight, if one is. -/
def Store.reservationInFlight (d : Store) : Option SiteData :=
  match d.reservation with
  | .inFlight c => some c
  | _ => none

/-- A stored-data write is in flight. -/
def Store.writing (d : Store) : Bool := d.hostInFlight.isSome || d.reservationInFlight.isSome

/-- The presented mark plus 100, with the prefix unchanged (R176). -/
def Store.raised (d : Store) : SiteData :=
  match d.site with
  | .valid c _ => { c with mark := c.mark + Config.reservationBlock }
  | _ => ⟨none, Config.reservationBlock⟩

namespace State

/-- SDU starts a write when nothing is in flight and a slot is waiting, the reservation first; none while a reset is
pending (R171, R209). -/
def startWrite (s : State) : State :=
  if s.sdu.writing || s.lsv.resetPending then s
  else match s.sdu.reservation, s.sdu.host with
    | .waiting, _ => s.modSdu fun d =>
        { d with
          reservation := .inFlight d.raised, marker := some .site, writeTimer := true, started := d.started + 1 }
    | _, .waiting job => s.modSdu fun d =>
        { d with
          host := .inFlight job, marker := some job.write.entry, writeTimer := true, started := d.started + 1 }
    | _, _ => s

/-- The next job number: one more, stepping from 255 to 1 (R190). -/
def nextJob (s : State) : Nat := if s.lku.job < 255 then s.lku.job + 1 else 1

/-- A store request taken: the job goes into the host job slot as waiting with the next job number (R170, R190). -/
def placeJob (kind : Byte) (write : StoreWrite) (s : State) : State :=
  let number := s.nextJob
  ((s.modLku fun l => { l with job := number }).modSdu fun d =>
    { d with host := .waiting ⟨number, kind, write⟩ }).startWrite

/-- LBU asks a reservation: it goes into the reservation slot as waiting (R134, R170). -/
def askReservation (s : State) : State :=
  ((s.modLbu fun l => { l with inFlight := true }).modSdu fun d => { d with reservation := .waiting }).startWrite

/-- What a site write that did not complete DONE leaves in the copy it was writing: free (log 14). -/
def partWrittenCopy (mark : Nat) (s : State) : State :=
  let (n, s) := s.draw
  s.modSdu fun d => { d with copies := writeCopy mark (Config.partWrite n) d.copies }

/-- A write in flight cut off by a power loss or the reset input (R208): the marker stands in store; a site write leaves its
copy as log 14 says, and the key read from a profile slot is free (log 15). -/
def cutOffWrite (s : State) : State :=
  match s.sdu.reservationInFlight, s.sdu.hostInFlight with
  | some c, _ => s.partWrittenCopy c.mark
  | none, some job =>
    match job.write.site, job.write.entry with
    | some c, _ => s.partWrittenCopy c.mark
    | none, .profile i =>
      let (n, s) := s.draw
      s.modSdu fun d => { d with profiles := d.profiles.set i { d.profiles[i] with key := some (Config.cutKey n).toNat } }
    | none, _ => s
  | none, none => s

end State

end Sys2Proof.Machine
end

