-- ==== Sys2Proof/Machine/Format.lean ====
section
/-! DEFINITION. The bytes the DL6 sends: the codes of R215, the frames of R181 and R214, the notice and query details of
R217, the report layouts of R218 and R219. -/

namespace Sys2Proof.Machine

/-! ### Codes (R215) -/

def PalletState.code : PalletState → Nat
  | .entering => 1
  | .checking => 2
  | .held => 3
  | .accepted => 4
  | .wrapping => 5
  | .wrapStopped => 6
  | .wrapped => 7
  | .labelling => 8
  | .labelled => 9
  | .rejected => 10
  | .offLine => 11

def Status.code : Status → Nat
  | .ok => 0
  | .accepted => 1
  | .busy => 2
  | .notPermitted => 3
  | .wrongState => 4
  | .malformed => 5
  | .outOfRange => 6
  | .notFound => 7
  | .alreadyExists => 8
  | .full => 9
  | .tooLate => 10
  | .inUse => 11
  | .fixed => 12
  | .palletPresent => 13
  | .storeFault => 14

def OrderState.code : OrderState → Nat
  | .isOpen => 1
  | .bound => 2
  | .complete => 3
  | .cutOff => 4
  | .cancelled => 5

def ZoneState.code : ZoneState → Nat
  | .free => 1
  | .awaitingTag => 2
  | .occupied => 3
  | .leaving => 4
  | .reserved => 5
  | .jammed => 6
  | .uncertain => 7
  | .untracked => 8

def FaceResult.code : FaceResult → Nat
  | .notDone => 1
  | .isMatch => 2
  | .noRead => 3
  | .mismatch => 4

def WrapperState.code : WrapperState → Nat
  | .idle => 1
  | .loading => 2
  | .wrapping => 3
  | .paused => 4
  | .discharging => 5
  | .stopped => 6
  | .faulted => 7
  | .offline => 8

def PauseCause.code : PauseCause → Nat
  | .halt => 1
  | .estop => 2
  | .filmOut => 3
  | .filmBreak => 4

def FaultCause.code : FaultCause → Nat
  | .noResponse => 1
  | .passTimeout => 2
  | .unitFault => 3

def PassKind.code : PassKind → Nat
  | .bottom => 1
  | .up => 2
  | .sheet => 3
  | .top => 4
  | .down => 5
  | .cut => 6
  | .statusQuery => 7

def ChannelState.code : ChannelState → Nat
  | .idle => 1
  | .sent => 2
  | .working => 3

def LabelState.code : LabelState → Nat
  | .idle => 1
  | .cycle => 2
  | .waitSerial => 3
  | .stopped => 4

def IssueBlock.code : IssueBlock → Nat
  | .noSite => 1
  | .siteDamaged => 2

def CheckState.code : CheckState → Nat
  | .idle => 1
  | .capturing => 2
  | .done => 3
  | .abandoned => 4

def LaneState.code : LaneState → Nat
  | .closed => 1
  | .bound => 2
  | .paused => 3
  | .done => 4
  | .ended => 5

def EndCause.code : EndCause → Nat
  | .cutOff => 1
  | .cancelled => 2

def ReleaseHold.code : ReleaseHold → Nat
  | .noPallet => 1
  | .stranded => 2
  | .lanePaused => 3
  | .truckAbsent => 4
  | .noAuthority => 5
  | .lineNotRunning => 6

def EntryState.code : EntryState → Nat
  | .empty => 1
  | .valid => 2
  | .damaged => 3

def LineState.code : LineState → Nat
  | .powerUp => 1
  | .stopped => 2
  | .running => 3
  | .halted => 4

def KeyPosition.code : KeyPosition → Nat
  | .run => 1
  | .setup => 2
  | .service => 3
  | .none => 4

def ResetKind.code : ResetKind → Nat
  | .powerOn => 1
  | .resetInput => 2
  | .resetRequest => 3

def LineCause.code : LineCause → Nat
  | .restart => 1
  | .keyLeftRun => 2
  | .keyReturned => 3
  | .estopOpened => 4

def HostSlot.code : HostSlot → Nat
  | .empty => 0
  | .waiting _ => 1
  | .inFlight _ => 2

def HostSlot.job : HostSlot → Option HostJob
  | .empty => none
  | .waiting j => some j
  | .inFlight j => some j

def ReservationSlot.code : ReservationSlot → Nat
  | .empty => 0
  | .waiting => 1
  | .inFlight _ => 2

/-- A code or number that may be absent as 0. -/
def orZero {α : Type} (f : α → Nat) : Option α → Nat
  | some a => f a
  | none => 0

/-! ### Composite fields (R212) -/

def weightBytes (w : Option Nat) : List Byte := u16 (w.getD 0xFFFF)

def timeBytes : Option Stamp → List Byte
  | some t => u32 t.clock.toNat ++ [if t.unset then 1 else 0]
  | none => u32 0 ++ [2]

/-- A list with its count byte. -/
def counted {α : Type} (f : α → List Byte) (l : List α) : List Byte := u8 l.length ++ (l.map f).flatten

def reasonBytes (rs : List Reason) : List Byte := counted (fun r => u8 r.code) rs

def assignmentBytes (a : Option Assignment) : List Byte := u32 (orZero (·.order) a) ++ u8 (orZero (·.line) a)

def Recipe.bytes (r : Recipe) : List Byte :=
  u16 r.prestretch ++ u8 r.bottom ++ u8 r.up ++ flagByte r.sheet ++ u8 r.top ++ u8 r.down ++ u8 r.film

def Profile.bytes (p : Profile) : List Byte :=
  u16 p.product ++ textBytes p.name ++ u16 p.fullUnits ++ u16 p.unitWeight ++ u16 p.tare ++ u16 p.tolerance ++
    (p.grid.map u16).flatten ++ u8 p.windowStart ++ u16 p.overTolerance ++ u16 p.underTolerance ++ u16 p.overLimit ++
    u16 p.underLimit ++ u16 p.highestAllowed ++ u8 p.recipe

def TimingValues.bytes (v : TimingValues) : List Byte :=
  u8 v.tag ++ u8 v.scan ++ u8 v.weight ++ u8 v.hold ++ u8 v.move ++ u16 v.laneWait ++ u8 v.warning ++ u8 v.pass

def wordBytes (w : Word16) : List Byte := u16 w.toNat

/-- One bit of a marks byte. -/
def mark (b : Bool) (weight : Nat) : Nat := if b then weight else 0

/-! ### Notices and queries (R214, R217) -/

def StationUnit.code : StationUnit → Nat
  | .wrapper w => w.number
  | .head .side => 3
  | .head .fend => 4
  | .scanner => 5

/-- The entry kind and number of a stored entry; the site and timing entries have number 0 (log 33). -/
def EntryId.bytes : EntryId → List Byte
  | .site => u8 1 ++ u8 0
  | .timing => u8 2 ++ u8 0
  | .profile i => u8 3 ++ u8 (i.val + 1)
  | .recipe i => u8 4 ++ u8 (i.val + 1)

def PalletEvent.code : PalletEvent → Nat
  | .held => 1
  | .accepted => 2
  | .labelled => 3
  | .rejected => 4
  | .returned => 5
  | .dispatched => 6
  | .removed => 7
  | .voided => 8

def OrderEvent.code : OrderEvent → Nat
  | .complete => 1
  | .cutOff => 2
  | .cancelled => 3

def LaneEvent.code : LaneEvent → Nat
  | .warning => 1
  | .ended => 2

def ZoneEvent.code : ZoneEvent → Nat
  | .jammed => 1
  | .uncertain => 2
  | .untracked => 3

def ZoneCause.code : ZoneCause → Nat
  | .trackFull => 1
  | .stray => 2
  | .departureTimeout => 3
  | .restart => 4
  | .confirm => 5

def StationEvent.code : StationEvent → Nat
  | .faulted => 1
  | .lowFilm => 2
  | .filmOut => 3
  | .filmBreak => 4
  | .labellerStopped => 5
  | .strayFrame => 6

def LabellerCause.code : LabellerCause → Nat
  | .headFault => 1
  | .noAnswer => 2

def StoreEvent.code : StoreEvent → Nat
  | .damaged => 1
  | .reservationFailed => 2
  | .serialsExhausted => 3

/-- Notice kind, event, details. -/
def Event.parts : Event → Nat × Nat × List Byte
  | .start kind entered key chain damaged site prefixHeld wrappers =>
    (1, 1, u8 kind.code ++ u8 entered.code ++ u8 key.code ++ flagByte chain ++ u8 damaged ++ u8 site.code ++
      flagByte prefixHeld ++ u8 wrappers.fst.code ++ u8 wrappers.snd.code)
  | .pallet event track entered serial assignment recipeMissing reasons =>
    (2, event.code, u8 track.number ++ u8 (orZero PalletState.code entered) ++ u32 (orZero id serial) ++
      assignmentBytes assignment ++ flagByte recipeMissing ++ reasonBytes reasons)
  | .order event number manifest dispatched listLength orphaned shorts =>
    (3, event.code, u32 number ++ u32 manifest.toNat ++ u8 dispatched ++ u8 listLength ++ u8 orphaned ++
      counted (fun l => u8 l.1 ++ u8 l.2) shorts)
  | .lane event n number remaining cause =>
    (4, event.code, u8 n.number ++ u32 (orZero id number) ++ u8 remaining ++ u8 (orZero EndCause.code cause))
  | .zone event z partner track cause =>
    (5, event.code, u8 z.code ++ u8 (orZero Zone.code partner) ++ u8 (orZero TrackNo.number track) ++
      u8 (orZero ZoneCause.code cause))
  | .station event unit track pass fault labeller film =>
    (6, event.code, u8 unit.code ++ u8 (orZero TrackNo.number track) ++ u8 (orZero PassKind.code pass) ++
      u8 (orZero FaultCause.code fault) ++ u8 (orZero LabellerCause.code labeller) ++ u16 film)
  | .store event entry key track next reservedEnd =>
    (7, event.code, entry.bytes ++ u16 (orZero id key) ++ u8 (orZero TrackNo.number track) ++ u32 next ++
      u32 reservedEnd)
  | .line left entered cause key chain =>
    (8, 1, u8 left.code ++ u8 entered.code ++ u8 cause.code ++ u8 key.code ++ flagByte chain)

def Notice.body (n : Notice) : List Byte :=
  let (kind, event, details) := n.event.parts
  u8 kind ++ u8 event ++ timeBytes (some n.time) ++ flagByte n.gap ++ details

/-- Query kind and key of R215 and R219. -/
def Question.kind : Question → Nat
  | .holdDecision .. => 1
  | .profileWanted .. => 2

def Question.key : Question → Nat
  | .holdDecision track _ _ => track.number
  | .profileWanted product _ => product

def Question.details : Question → List Byte
  | .holdDecision track reasons left => u8 track.number ++ u8 left ++ reasonBytes reasons
  | .profileWanted product track => u16 product ++ u8 track.number

def Query.body (q : Query) : List Byte := u8 q.question.kind ++ timeBytes (some q.made) ++ q.question.details

/-! ### Frames (R181, R214) -/

/-- Kind, tag and body of a frame sent. -/
def OutFrame.parts : OutFrame → Byte × Byte × List Byte
  | .answer (.reply tag kind status data) => (0x80, tag, [kind] ++ u8 status.code ++ data)
  | .answer (.completion job kind done time) =>
    (0x81, 0, u8 job ++ [kind] ++ u8 (if done then 1 else 2) ++ timeBytes (some time))
  | .notice n => (0x82, 0, n.body)
  | .query q => (0x83, 0, q.body)

/-- A whole frame on the line: lead, length, kind, tag, body, check. -/
def frameBytes (kind tag : Byte) (body : List Byte) : List Byte :=
  let covered := u16 (body.length + 2) ++ [kind, tag] ++ body
  [0x5A] ++ covered ++ wordBytes (crc covered)

/-- The bytes of a frame being sent. -/
def OutFrame.bytes (f : OutFrame) : List Byte :=
  let (kind, tag, body) := f.parts
  frameBytes kind tag body

/-! ### Track and order reports (R218) -/

namespace State

/-- Position in the OFF_LINE list counted from 1, 0 when not in it (R15). -/
def offLinePosition (s : State) (n : TrackNo) : Nat :=
  match s.trt.offLine.findIdx? (· == n) with
  | some i => i + 1
  | none => 0

def palletReport (s : State) (n : TrackNo) (p : Pallet) : List Byte :=
  let flags := mark p.tag.isSome 1 + mark p.orphaned 2 + mark p.checkSeq.isSome 4 + mark p.profile.isSome 8 +
    mark (p.profile.any (·.degraded)) 16 + mark (p.profile.any (·.part)) 32 + mark p.recipeMissing 64
  u8 n.number ++ u8 p.state.code ++ u8 (orZero Zone.code p.location) ++
    u8 (s.offLinePosition n) ++ u8 p.attempts ++ u8 flags ++ u32 (orZero BitVec.toNat p.checkSeq) ++
    weightBytes p.gross ++
    u16 (orZero (·.overs) p.profile) ++ u16 (orZero (·.unders) p.profile) ++ u16 (orZero (·.invalid) p.profile) ++
    u16 (orZero (·.highest) p.profile) ++ assignmentBytes p.assignment ++
    (match p.plan with | some r => r.bytes | none => [0, 0, 0, 0, 0, 0, 0, 0]) ++
    u8 (orZero Wrapper.number p.wrapper) ++ u8 p.passesDone ++ u32 (orZero id p.serial) ++
    u8 p.faces.fst.result.code ++ u8 p.faces.fst.attempts ++ u8 p.faces.snd.result.code ++ u8 p.faces.snd.attempts ++
    timeBytes (some p.created) ++ timeBytes p.verdictTime ++ timeBytes p.labelledTime ++
    (match p.tag with
      | some t => u16 t.product ++ u16 t.units ++ u32 (orZero id t.order) ++ u16 t.bestBefore ++ textBytes t.batch
      | none => u16 0 ++ u16 0 ++ u32 0 ++ u16 0 ++ textBytes []) ++
    reasonBytes p.reasons

def summaryEntry (s : State) (n : TrackNo) : List Byte :=
  match s.pallet n with
  | none => []
  | some p =>
    u8 n.number ++ u8 p.state.code ++ u8 (orZero Zone.code p.location) ++ u16 (orZero (·.product) p.tag) ++
      u8 p.attempts ++ assignmentBytes p.assignment ++ flagByte p.orphaned ++ u32 (orZero id p.serial) ++
      u8 (s.offLinePosition n)

/-- R23. -/
def trackSummary (s : State) : List Byte :=
  u8 s.recordCount ++ u8 (24 - s.recordCount) ++ u8 s.trt.offLine.length ++ u32 s.trt.checkSeq.toNat ++
    (s.tracks.map s.summaryEntry).flatten

end State

/-- R47. -/
def Order.report (o : Order) : List Byte :=
  u32 o.number ++ u8 o.priority ++ flagByte o.bonded ++ u8 o.state.code ++ u8 (orZero Lane.number o.lane) ++
    u32 o.creationSeq.toNat ++ u32 o.manifest.toNat ++ u8 o.dispatch.length ++
    counted (fun l => u8 l.number ++ u16 l.product ++ u8 l.ordered ++ u8 l.assigned ++ u8 l.dispatched ++
      u8 (l.assigned - l.dispatched)) o.lines ++
    textBytes o.destination ++ textBytes (o.authority.getD [])

def Order.summary (o : Order) : List Byte :=
  u32 o.number ++ u8 o.state.code ++ u8 o.priority ++ flagByte o.bonded ++ flagByte o.authority.isSome ++
    u8 (orZero Lane.number o.lane) ++ u32 o.creationSeq.toNat ++ u8 (o.sum (·.ordered)) ++ u8 (o.sum (·.assigned)) ++
    u8 (o.sum (·.dispatched)) ++ u8 o.dispatch.length

/-- Put an order into its place by creation sequence. -/
def Order.insert (o : Order) : List Order → List Order
  | [] => [o]
  | q :: rest => if o.creationSeq.toNat < q.creationSeq.toNat then o :: q :: rest else q :: Order.insert o rest

/-- The orders in ascending order of creation sequence (R48). -/
def Book.ascending (b : Book) : List Order := b.orders.foldl (fun l o => o.insert l) []

/-- R48. -/
def Book.report (b : Book) : List Byte :=
  u8 b.orders.length ++ u32 b.creationSeq.toNat ++ (b.ascending.map Order.summary).flatten

def DispatchEntry.bytes (e : DispatchEntry) : List Byte :=
  u32 e.serial ++ u16 e.product ++ weightBytes e.gross ++ timeBytes (some e.time) ++ textBytes e.batch

/-- The page of the dispatch list from a position, counted from 1 (R49). -/
def Order.page (o : Order) (start : Nat) : List Byte :=
  u32 o.number ++ u8 o.dispatch.length ++ u32 o.manifest.toNat ++
    counted DispatchEntry.bytes ((o.dispatch.drop (start - 1)).take Config.pageEntries)

/-! ### Station, line and store reports (R219) -/

namespace State

def zoneEntry (s : State) (z : Zone) : List Byte :=
  let r := s.zone z
  u8 r.state.code ++ flagByte r.interrupted ++ flagByte r.eye ++ u8 (orZero TrackNo.number r.record) ++
    u8 (orZero Zone.code r.partner) ++ u8 r.moveTimer.left

/-- R104. -/
def zonesReport (s : State) : List Byte :=
  (Zone.all.map s.zoneEntry).flatten ++ u8 (orZero Lane.number s.znc.route) ++
    u16 (match s.znc.laneWait with | .running n => n | .stopped => 0xFFFF) ++ u8 s.znc.splitter.number ++
    flagByte s.znc.infeedReady

/-- R127; passes and marks for a tracked load only. -/
def wrapperEntry (s : State) (w : Wrapper) : List Byte :=
  let r := s.wrapper w
  let held := match r.load with
    | .track n => s.pallet n
    | _ => none
  let next := match held with
    | some p => nextPass p.plan p.passesDone r.sheetDone r.cutDone
    | none => none
  let c := r.channel
  u8 r.state.code ++ u8 (orZero PauseCause.code r.pauseCause) ++ u8 (orZero FaultCause.code r.faultCause) ++
    u8 (match r.load with | .none => 0 | .track n => n.number | .untracked => 0xFF) ++
    u8 (orZero (·.passesDone) held) ++ u8 (orZero (fun p => orZero Recipe.passes p.plan) held) ++
    u8 (match r.load with
      | .track _ => mark r.sheetDone 1 + mark r.cutDone 2 + mark r.abortPending 4 + mark r.dischargeUnderWay 8
      | _ => 0) ++
    u8 (orZero PassKind.code next) ++ u16 r.film ++ flagByte r.lowFilmSent ++
    u8 c.state.code ++ u8 (orZero (fun f => f.kind.code) c.command) ++
    u8 (orZero (fun f => f.number.toNat) c.command) ++ u8 c.resend ++ u8 c.pass.left ++ timeBytes (some c.lastSent)

def wrappersReport (s : State) : List Byte := s.wrapperEntry .a ++ s.wrapperEntry .b

/-- R162; the release hold when none of its six conditions is unmet is sent as 0 (log 28). -/
def laneEntry (s : State) (n : Lane) : List Byte :=
  let l := s.lane n
  u8 l.state.code ++ u32 (orZero id l.order) ++ u8 l.remaining ++ u8 l.minute.left ++ flagByte l.warned ++
    flagByte l.truck ++ u8 (orZero EndCause.code l.endCause) ++ u8 (orZero ReleaseHold.code (s.releaseHold n)) ++
    u8 (orZero TrackNo.number (s.occupant (.gate n)))

def lanesReport (s : State) : List Byte := (Lane.all.map s.laneEntry).flatten

/-- The prefix and mark presented by the site entry; a DAMAGED one presents none and 0 (log 27). -/
def sitePresented (s : State) : SiteData :=
  match s.sdu.site with
  | .valid c _ => c
  | _ => ⟨none, 0⟩

/-- R180. -/
def settingsReport (s : State) : List Byte :=
  let d := s.sdu
  let site := s.sitePresented
  u8 d.site.state.code ++ textBytes (site.sitePrefix.getD []) ++ u32 site.mark ++
    u32 ((markFloor d.copies).getD 0xFFFFFFFF) ++
    u8 d.timing.state.code ++
    (match d.timing with
      | .valid v _ => v.bytes
      | _ => TimingValues.bytes ⟨0, 0, 0, 0, 0, 0, 0, 0⟩) ++
    d.inForce.bytes ++ u8 d.host.code ++ u8 (orZero (·.number) d.host.job) ++ u8 (orZero (·.kind.toNat) d.host.job) ++
    u8 d.reservation.code ++
    (Slot.all.map fun i => u8 d.profiles[i].entry.state.code ++ u16 (d.profiles[i].key.getD 0)).flatten ++
    (Recipe.all.map fun i => u8 d.recipes[i].state.code).flatten

/-- R198. -/
def statusReport (s : State) : List Byte :=
  let l := s.lbu
  let h := s.cku.headInhibit
  u8 s.lsv.line.code ++ u8 s.lsv.key.code ++ flagByte s.lsv.chainOpen ++ timeBytes (some s.now) ++
    u8 s.recordCount ++ u8 s.trt.offLine.length ++ u8 s.obk.orders.length ++
    u8 s.cku.state.code ++ u8 (orZero TrackNo.number s.cku.track) ++ u8 (orZero TrackNo.number s.cku.holdTrack) ++
    u8 s.cku.holdTimer.left ++ u8 (mark h.h1 1 + mark h.h2 2 + mark h.h3 4 + mark h.h4 8) ++
    u8 s.wsq.fst.state.code ++ u8 s.wsq.snd.state.code ++
    u8 l.state.code ++ u8 (orZero TrackNo.number l.track) ++ u8 (orZero IssueBlock.code l.block) ++ u32 l.next ++
    u32 l.reservedEnd ++ flagByte l.inFlight ++ flagByte l.exhausted ++
    (Lane.all.map fun n => u8 (s.lane n).state.code).flatten ++
    u8 s.sdu.host.code ++ u8 (orZero (·.number) s.sdu.host.job) ++ u8 s.sdu.reservation.code ++
    u8 s.sdu.site.state.code ++
    u16 s.lku.errors ++ u8 s.replyCount ++ u8 s.lku.notices.length ++ flagByte s.lku.gap ++ u8 s.lku.job ++
    counted (fun q : Query => u8 q.question.kind ++ u16 q.question.key ++ timeBytes (some q.made) ++ flagByte q.sent)
      s.lku.queries

end State

end Sys2Proof.Machine
end

