-- ==== Sys2Proof/Machine/Operands.lean ====
section
/-! DEFINITION. The operands of the requests: every body layout of R216 read by R213, then checked by steps 1 to 3 of R187
in the order written there. -/

namespace Sys2Proof

def TrackNo.ofNumber (n : Nat) : Option TrackNo := if h : 1 ≤ n ∧ n ≤ 24 then some ⟨n - 1, by omega⟩ else none

def Lane.ofNumber (n : Nat) : Option Lane := if h : 1 ≤ n ∧ n ≤ 6 then some ⟨n - 1, by omega⟩ else none

def Wrapper.ofNumber : Nat → Option Wrapper
  | 1 => some .a
  | 2 => some .b
  | _ => none

/-- The zone of a code of R215. -/
def Zone.ofCode (n : Nat) : Option Zone := Zone.all.find? fun z => z.code == n

end Sys2Proof

namespace Sys2Proof.Machine

/-- A request's operands, or the status of the first check of R187 that fails. -/
abbrev Checked (α : Type) := Except Status α

/-- Step 1, structure: a body that does not read whole is MALFORMED. -/
def structured {α : Type} : Option α → Checked α
  | some a => .ok a
  | none => .error .malformed

/-- Steps 2 and 3: the tests in their order; the first that does not hold gives the reply. -/
def firstBad : List (Bool × Status) → Option Status
  | [] => none
  | (good, st) :: rest => if good then firstBad rest else some st

/-- The operands, when every test holds. -/
def checkedBy {α : Type} (tests : List (Bool × Status)) (a : α) : Checked α :=
  match firstBad tests with
  | some st => .error st
  | none => .ok a

/-- A named thing, OUT_OF_RANGE when the number names none. -/
def named {α : Type} : Option α → Checked α
  | some a => .ok a
  | none => .error .outOfRange

def within (lo hi n : Nat) : Bool := decide (lo ≤ n) && decide (n ≤ hi)

/-- A number field in its range. -/
def range (lo hi n : Nat) : Bool × Status := (within lo hi n, .outOfRange)

/-- A text field of the text set and of its bounds. -/
def textField (lo hi : Nat) (t : Text) : Bool × Status := (within lo hi t.length && isText t, .malformed)

/-- A flag field. -/
def flagField (n : Nat) : Bool × Status := (decide (n ≤ 1), .malformed)

/-! ### Bodies with no or one field -/

def argNone (body : List Byte) : Checked Unit := structured (rdEnd () body)

/-- One u8. -/
def rdOne8 (body : List Byte) : Option Nat := do
  let (n, rest) ← rdU8 body
  rdEnd n rest

def argTrack (body : List Byte) : Checked TrackNo := do named (TrackNo.ofNumber (← structured (rdOne8 body)))

def argLane (body : List Byte) : Checked Lane := do named (Lane.ofNumber (← structured (rdOne8 body)))

def argZone (body : List Byte) : Checked Zone := do named (Zone.ofCode (← structured (rdOne8 body)))

def argWrapper (body : List Byte) : Checked Wrapper := do named (Wrapper.ofNumber (← structured (rdOne8 body)))

def argRecipe (body : List Byte) : Checked (Fin 16) := do named (recipeEntry (← structured (rdOne8 body)))

/-- An order number, 1 to 999,999 (R25). -/
def argOrder (body : List Byte) : Checked Nat := do
  let n ← structured do
    let (n, rest) ← rdU32 body
    rdEnd n rest
  checkedBy [range 1 999999 n] n

/-- A product code, 1 to 65535. -/
def argProduct (body : List Byte) : Checked Nat := do
  let n ← structured do
    let (n, rest) ← rdU16 body
    rdEnd n rest
  checkedBy [range 1 65535 n] n

/-- The seconds of SET CLOCK: every value is in range (R207). -/
def argClock (body : List Byte) : Checked Nat := structured do
  let (n, rest) ← rdU32 body
  rdEnd n rest

/-- The prefix of SET SITE. -/
def argPrefix (body : List Byte) : Checked Text := do
  let t ← structured do
    let (t, rest) ← rdText body
    rdEnd t rest
  checkedBy [(isPrefix t, .malformed)] t

/-! ### Bodies of several fields -/

/-- Order and position of READ DISPATCH LIST (R49). -/
def argPage (body : List Byte) : Checked (Nat × Nat) := do
  let (n, start) ← structured do
    let (n, rest) ← rdU32 body
    let (start, rest) ← rdU8 rest
    rdEnd (n, start) rest
  checkedBy [range 1 999999 n, range 1 60 start] (n, start)

/-- What NEW ORDER asks for; each line is (line number, product code, ordered count) (R29). -/
structure NewOrder where
  number : Nat
  priority : Nat
  bonded : Bool
  destination : Text
  lines : List (Nat × Nat × Nat)
deriving DecidableEq, Repr

/-- `n` order lines of a NEW ORDER body. -/
def rdLines : Nat → List Byte → Option (List (Nat × Nat × Nat) × List Byte)
  | 0, bs => some ([], bs)
  | n + 1, bs => do
    let (number, bs) ← rdU8 bs
    let (product, bs) ← rdU16 bs
    let (ordered, bs) ← rdU8 bs
    let (lines, bs) ← rdLines n bs
    some ((number, product, ordered) :: lines, bs)

def lineTests : List (Nat × Nat × Nat) → List (Bool × Status)
  | [] => []
  | (number, product, ordered) :: rest => range 1 8 number :: range 1 65535 product :: range 1 60 ordered :: lineTests rest

def noRepeat : List Nat → Bool
  | [] => true
  | a :: rest => !rest.contains a && noRepeat rest

/-- R29: fields in the order of the body, then the sum, then the repeated line numbers and product codes (log 32). -/
def argNewOrder (body : List Byte) : Checked NewOrder := do
  let (number, priority, bonded, destination, lines) ← structured do
    let (number, bs) ← rdU32 body
    let (priority, bs) ← rdU8 bs
    let (bonded, bs) ← rdU8 bs
    let (destination, bs) ← rdText bs
    let (count, bs) ← rdU8 bs
    let (lines, bs) ← rdLines count bs
    rdEnd (number, priority, bonded, destination, lines) bs
  checkedBy
    ([range 1 999999 number, range 0 3 priority, flagField bonded, textField 1 24 destination,
      (within 1 8 lines.length, .malformed)] ++ lineTests lines ++
      [(decide ((lines.map fun l => l.2.2).sum ≤ 60), .outOfRange), (noRepeat (lines.map fun l => l.1), .malformed),
       (noRepeat (lines.map fun l => l.2.1), .malformed)])
    ⟨number, priority, bonded == 1, destination, lines⟩

/-- Order and reference of AUTHORISE RELEASE (R45). -/
def argAuthority (body : List Byte) : Checked (Nat × Text) := do
  let (n, reference) ← structured do
    let (n, bs) ← rdU32 body
    let (reference, bs) ← rdText bs
    rdEnd (n, reference) bs
  checkedBy [range 1 999999 n, textField 1 16 reference] (n, reference)

/-- Lane, order and minutes of BIND LANE (R149). -/
def argBind (body : List Byte) : Checked (Lane × Nat × Nat) := do
  let (lane, order, minutes) ← structured do
    let (lane, bs) ← rdU8 body
    let (order, bs) ← rdU32 bs
    let (minutes, bs) ← rdU8 bs
    rdEnd (lane, order, minutes) bs
  let lane ← named (Lane.ofNumber lane)
  checkedBy [range 1 999999 order, range 1 Config.laneMinutes minutes] (lane, order, minutes)

/-- Lane and minutes of EXTEND CUT-OFF (R154). -/
def argExtend (body : List Byte) : Checked (Lane × Nat) := do
  let (lane, minutes) ← structured do
    let (lane, bs) ← rdU8 body
    let (minutes, bs) ← rdU8 bs
    rdEnd (lane, minutes) bs
  let lane ← named (Lane.ofNumber lane)
  checkedBy [range 1 Config.laneMinutes minutes] (lane, minutes)

/-- The decisions of DECIDE HOLD (R67, R213). -/
inductive Decision where
  | override | divert
deriving DecidableEq, Repr

def argDecide (body : List Byte) : Checked (TrackNo × Decision) := do
  let (track, decision) ← structured do
    let (track, bs) ← rdU8 body
    let (decision, bs) ← rdU8 bs
    rdEnd (track, decision) bs
  let track ← named (TrackNo.ofNumber track)
  match decision with
  | 1 => .ok (track, .override)
  | 2 => .ok (track, .divert)
  | _ => .error .malformed

/-- Zone and track of CONFIRM ZONE (R103). -/
def argConfirm (body : List Byte) : Checked (Zone × TrackNo) := do
  let (zone, track) ← structured do
    let (zone, bs) ← rdU8 body
    let (track, bs) ← rdU8 bs
    rdEnd (zone, track) bs
  let zone ← named (Zone.ofCode zone)
  let track ← named (TrackNo.ofNumber track)
  .ok (zone, track)

/-- Wrapper and metres of FILM LOADED (R116). -/
def argFilm (body : List Byte) : Checked (Wrapper × Nat) := do
  let (wrapper, metres) ← structured do
    let (wrapper, bs) ← rdU8 body
    let (metres, bs) ← rdU16 bs
    rdEnd (wrapper, metres) bs
  let wrapper ← named (Wrapper.ofNumber wrapper)
  checkedBy [range 100 3000 metres] (wrapper, metres)

/-- The set of heads of INHIBIT HEADS (R75, R213). -/
def argHeads (body : List Byte) : Checked Heads := do
  let heads ← structured do
    let (count, bs) ← rdU8 body
    let (heads, bs) ← rdU8s count bs
    rdEnd heads bs
  checkedBy ((decide (heads.length ≤ 4), .malformed) :: heads.map (range 1 4))
    ⟨heads.contains 1, heads.contains 2, heads.contains 3, heads.contains 4⟩

/-! ### Stored definitions -/

/-- A profile definition (section 11.4). -/
def rdProfile (bs : List Byte) : Option (Profile × List Byte) := do
  let (product, bs) ← rdU16 bs
  let (name, bs) ← rdText bs
  let (fullUnits, bs) ← rdU16 bs
  let (unitWeight, bs) ← rdU16 bs
  let (tare, bs) ← rdU16 bs
  let (tolerance, bs) ← rdU16 bs
  let (grid, bs) ← rdU16s 320 bs
  let (windowStart, bs) ← rdU8 bs
  let (overTolerance, bs) ← rdU16 bs
  let (underTolerance, bs) ← rdU16 bs
  let (overLimit, bs) ← rdU16 bs
  let (underLimit, bs) ← rdU16 bs
  let (highestAllowed, bs) ← rdU16 bs
  let (recipe, bs) ← rdU8 bs
  some ({ product, name, fullUnits, unitWeight, tare, tolerance, grid, windowStart, overTolerance, underTolerance,
          overLimit, underLimit, highestAllowed, recipe }, bs)

/-- The ranges of R166, in the order of the definition. -/
def Profile.tests (p : Profile) : List (Bool × Status) :=
  [range 1 65535 p.product, textField 0 20 p.name, range 1 400 p.fullUnits, range 1 2000 p.unitWeight,
   range 50 600 p.tare, range 5 500 p.tolerance, (p.grid.all (within 0 2500), .outOfRange), range 0 28 p.windowStart,
   range 5 200 p.overTolerance, range 5 200 p.underTolerance, range 0 320 p.overLimit, range 0 320 p.underLimit,
   range 500 2500 p.highestAllowed, range 0 16 p.recipe]

def argProfile (body : List Byte) : Checked Profile := do
  let p ← structured do
    let (p, bs) ← rdProfile body
    rdEnd p bs
  checkedBy p.tests p

/-- SUPPLY PROFILE: the product code of the definition must be the argument's, else MALFORMED (R73). -/
def argSupply (body : List Byte) : Checked Profile := do
  let (product, p) ← structured do
    let (product, bs) ← rdU16 body
    let (p, bs) ← rdProfile bs
    rdEnd (product, p) bs
  checkedBy (range 1 65535 product :: p.tests ++ [(product == p.product, .malformed)]) p

/-- The fields of a recipe definition with the top sheet flag as sent. -/
def rdRecipe (bs : List Byte) : Option ((Recipe × Nat) × List Byte) := do
  let (prestretch, bs) ← rdU16 bs
  let (bottom, bs) ← rdU8 bs
  let (up, bs) ← rdU8 bs
  let (sheet, bs) ← rdU8 bs
  let (top, bs) ← rdU8 bs
  let (down, bs) ← rdU8 bs
  let (film, bs) ← rdU8 bs
  some (({ prestretch, bottom, up, sheet := sheet == 1, top, down, film }, sheet), bs)

/-- Recipe number and definition of DEFINE RECIPE (R168). -/
def argDefineRecipe (body : List Byte) : Checked (Fin 16 × Recipe) := do
  let (number, r, sheet) ← structured do
    let (number, bs) ← rdU8 body
    let (r, bs) ← rdRecipe bs
    rdEnd (number, r) bs
  let entry ← named (recipeEntry number)
  checkedBy
    [range 100 350 r.prestretch, range 0 9 r.bottom, range 0 20 r.up, flagField sheet, range 0 9 r.top,
     range 0 20 r.down, range 1 40 r.film, (decide (r.passes ≤ 40), .outOfRange)]
    (entry, r)

/-- The eight values of SET TIMING (R169). -/
def argTiming (body : List Byte) : Checked TimingValues := do
  let v ← structured do
    let (tag, bs) ← rdU8 body
    let (scan, bs) ← rdU8 bs
    let (weight, bs) ← rdU8 bs
    let (hold, bs) ← rdU8 bs
    let (move, bs) ← rdU8 bs
    let (laneWait, bs) ← rdU16 bs
    let (warning, bs) ← rdU8 bs
    let (pass, bs) ← rdU8 bs
    rdEnd ({ tag, scan, weight, hold, move, laneWait, warning, pass } : TimingValues) bs
  checkedBy
    [range 1 10 v.tag, range 2 30 v.scan, range 2 30 v.weight, range 5 60 v.hold, range 4 30 v.move,
     range 10 600 v.laneWait, range 0 60 v.warning, range 20 240 v.pass]
    v

/-- Prefix and mark of RECOVER SERIALS (R177). -/
def argRecover (body : List Byte) : Checked (Text × Nat) := do
  let (t, mark) ← structured do
    let (t, bs) ← rdText body
    let (mark, bs) ← rdU32 bs
    rdEnd (t, mark) bs
  checkedBy [(isPrefix t, .malformed), range 1 Config.highestMark mark] (t, mark)

/-! ### The tag read (R3) -/

/-- The tag of a read, when every field is within its range; a requested order of 0 is absent. -/
def TagFields.tag (t : TagFields) : Option Tag :=
  if within 1 65535 t.product && within 1 10 t.batch.length && isText t.batch && within 1 400 t.units &&
      within 0 999999 t.order && within 0 65535 t.bestBefore then
    some { product := t.product, batch := t.batch, units := t.units,
           order := if t.order = 0 then none else some t.order, bestBefore := t.bestBefore }
  else none

end Sys2Proof.Machine
end

