-- ==== Sys2Proof/Machine/Observe.lean ====
section
/-! DEFINITION. What a request is, and the OBSERVE requests (R22, R23, R47 to R49, R104, R127, R162, R179, R180, R198). -/

namespace Sys2Proof.Machine

/-- What a request's taking gives: a reply made at once, or the owed place of RESTORE WRAPPER (R188). -/
inductive Response where
  | now (status : Status) (data : List Byte)
  | owed
deriving DecidableEq, Repr

/-- A request: its kind byte and class (R216), and what its owner does with the tag and the body once its class is
admitted. -/
structure Request where
  kind : Byte
  cls : Class
  handle : Byte → List Byte → State → State × Response

/-- A refused request changes nothing (R187). -/
def refuse (st : Status) (s : State) : State × Response := (s, .now st [])

/-- OK with the data of section 11.4. -/
def okay (data : List Byte) (s : State) : State × Response := (s, .now .ok data)

/-- Operands first, then the owner's checks and action (R187). -/
def withArgs {α : Type} (arg : Checked α) (act : α → State → State × Response) (s : State) : State × Response :=
  match arg with
  | .ok a => act a s
  | .error st => refuse st s

/-- A report of the state with no argument. -/
def reportRequest (report : State → List Byte) (body : List Byte) (s : State) : State × Response :=
  withArgs (argNone body) (fun _ s => okay (report s) s) s

def reqStatus : Request := ⟨0x01, .observe, fun _ => reportRequest State.statusReport⟩

def actReadPallet (n : TrackNo) (s : State) : State × Response :=
  match s.pallet n with
  | some p => okay (s.palletReport n p) s
  | none => refuse .notFound s

def reqReadPallet : Request := ⟨0x02, .observe, fun _ body => withArgs (argTrack body) actReadPallet⟩

def reqListTrack : Request := ⟨0x03, .observe, fun _ => reportRequest State.trackSummary⟩

def actReadOrder (number : Nat) (s : State) : State × Response :=
  match s.order number with
  | some o => okay o.report s
  | none => refuse .notFound s

def reqReadOrder : Request := ⟨0x04, .observe, fun _ body => withArgs (argOrder body) actReadOrder⟩

def reqListOrders : Request := ⟨0x05, .observe, fun _ => reportRequest fun s => s.obk.report⟩

def actReadDispatchList (page : Nat × Nat) (s : State) : State × Response :=
  match s.order page.1 with
  | some o => okay (o.page page.2) s
  | none => refuse .notFound s

def reqReadDispatchList : Request := ⟨0x06, .observe, fun _ body => withArgs (argPage body) actReadDispatchList⟩

/-- Number, contents and check word of a VALID entry that reads whole; STORE_FAULT for a DAMAGED one (R179; log 13). -/
def actReadProfile (product : Nat) (s : State) : State × Response :=
  match s.sdu.slotOf product with
  | none => refuse .notFound s
  | some i =>
    match s.readProfileOf product with
    | (.valid p _, s) => okay (u8 (i.val + 1) ++ p.bytes ++ wordBytes (Config.checkWord p.bytes)) s
    | (.damaged, s) => refuse .storeFault s
    | (.empty _, s) => refuse .notFound s

def reqReadProfile : Request := ⟨0x07, .observe, fun _ body => withArgs (argProduct body) actReadProfile⟩

def actReadRecipe (i : Fin 16) (s : State) : State × Response :=
  match s.readRecipeEntry i with
  | (.valid r _, s) => okay (u8 (i.val + 1) ++ r.bytes ++ wordBytes (Config.checkWord r.bytes)) s
  | (.damaged, s) => refuse .storeFault s
  | (.empty _, s) => refuse .notFound s

def reqReadRecipe : Request := ⟨0x08, .observe, fun _ body => withArgs (argRecipe body) actReadRecipe⟩

def reqReadLanes : Request := ⟨0x09, .observe, fun _ => reportRequest State.lanesReport⟩

def reqReadZones : Request := ⟨0x0A, .observe, fun _ => reportRequest State.zonesReport⟩

def reqReadWrappers : Request := ⟨0x0B, .observe, fun _ => reportRequest State.wrappersReport⟩

/-- The site entry and then the timing entry are read with their check words; the directory and the recipe states are not
(R164, R165, R180; log 27). -/
def actReadSettings (_ : Unit) (s : State) : State × Response :=
  let (_, s) := s.readSite
  let (_, s) := s.readTiming
  okay s.settingsReport s

def reqReadSettings : Request := ⟨0x0C, .observe, fun _ body => withArgs (argNone body) actReadSettings⟩

end Sys2Proof.Machine
end

