-- ==== Sys2Proof/Machine/Orders.lean ====
section
/-! DEFINITION. The Order Book (file 02): allocation, orphaning, the ORDER notice, dispatch accounting, and the change of
a lane's state at the word of the book (R156). -/

namespace Sys2Proof.Machine

/-! ### Allocation (R31, R32) -/

/-- The line of an order that qualifies for a product; an order has at most one line for it. -/
def Order.qualifying (o : Order) (product : Nat) : Option OrderLine :=
  if o.state.live then o.lines.find? fun l => l.product == product && decide (l.assigned < l.ordered) else none

/-- The highest priority, then the lowest creation sequence. -/
def Order.before (o q : Order) : Bool :=
  decide (o.priority > q.priority) || (o.priority == q.priority && decide (o.creationSeq.toNat < q.creationSeq.toNat))

/-- The candidates for a tag: the requested order alone when the tag names one, otherwise every order; each with its
qualifying line. -/
def Book.candidates (b : Book) (t : Tag) : List (Order × OrderLine) :=
  let tried : List Order := match t.order with
    | some number => b.orders.filter fun o => o.number == number
    | none => b.orders
  tried.filterMap fun o => (o.qualifying t.product).map fun l => (o, l)

/-- The order and line chosen for a tag; none is NO_DEMAND. -/
def Book.choose (b : Book) (t : Tag) : Option (Order × OrderLine) :=
  (b.candidates t).foldl (fun best c => match best with
    | none => some c
    | some q => if c.1.before q.1 then some c else best) none

namespace State

/-- Allocation for a record: its assignment is made, or none for NO_DEMAND. -/
def allocate (n : TrackNo) (s : State) : Option State :=
  match s.pallet n with
  | none => none
  | some p =>
    match p.tag.bind s.obk.choose with
    | none => none
    | some (o, l) => some <|
      (s.modOrder o.number (Order.modLine l.number fun l => { l with assigned := l.assigned + 1 })).putPallet n
        (some { p with assignment := some ⟨o.number, l.number⟩ })

/-! ### The end of an order (R36 to R39) -/

/-- The records whose assignment names an order. -/
def assignedTo (s : State) (number : Nat) : List TrackNo :=
  s.tracks.filter fun n => match s.pallet n with
    | some p => match p.assignment with
      | some a => a.order == number
      | none => false
    | none => false

/-- R37: the assignment of every record of the order is made absent and its orphaned flag set; every line's assigned count
is set to its dispatched count. -/
def orphan (number : Nat) (s : State) : State :=
  ((s.assignedTo number).foldl
      (fun s n => s.modPallet n fun p => { p with assignment := none, orphaned := true }) s).modOrder
    number fun o => { o with lines := o.lines.map fun l => { l with assigned := l.dispatched } }

/-- The ORDER notice; the short counts go with CUT_OFF and CANCELLED (R39). -/
def orderNotice (event : OrderEvent) (number orphaned : Nat) (s : State) : State :=
  match s.order number with
  | some o => s.notify (.order event number o.manifest (o.sum (·.dispatched)) o.dispatch.length orphaned
      (match event with | .complete => [] | _ => o.shorts))
  | none => s

/-- LNU puts a lane to ENDED with a cause and makes the LANE notice ENDED (R155, R156). -/
def endLane (n : Lane) (cause : EndCause) (s : State) : State :=
  let s := s.modLane n fun l => { l with state := .ended, minute := .stopped, endCause := some cause }
  s.notify (.lane .ended n (s.lane n).order (s.lane n).remaining (some cause))

/-- The book's part of a cancel (R36, steps 1 to 4). -/
def cancelInBook (number : Nat) (s : State) : State :=
  let count := (s.assignedTo number).length
  let s := (s.modOrder number fun o => { o with state := .cancelled }).orphan number
  let s := match (s.order number).bind (·.lane) with
    | some n => s.endLane n .cancelled
    | none => s
  s.orderNotice .cancelled number count

/-- The book's part of a cut-off (R38). -/
def cutOffInBook (number : Nat) (s : State) : State :=
  let count := (s.assignedTo number).length
  let s := (s.modOrder number fun o => { o with state := .cutOff }).orphan number
  s.orderNotice .cutOff number count

/-! ### Dispatch accounting (R40 to R43) -/

/-- The entry a record gives to a dispatch list (R41). -/
def dispatchEntry (s : State) (p : Pallet) : DispatchEntry :=
  { serial := p.serial.getD 0, product := (p.tag.map (·.product)).getD 0, batch := (p.tag.map (·.batch)).getD [],
    gross := p.gross, time := s.now }

end State

/-- Steps 1 to 3 of R40 on the order. -/
def Order.account (line : Nat) (e : DispatchEntry) (o : Order) : Order :=
  { o.modLine line (fun l => { l with dispatched := l.dispatched + 1 }) with
    dispatch := o.dispatch ++ [e], manifest := foldSerial o.manifest e.serial }

namespace State

/-- R43: an order dispatched in full becomes COMPLETE, its lane DONE, and the ORDER notice COMPLETE is made. -/
def testComplete (number : Nat) (s : State) : State :=
  match s.order number with
  | some o =>
    if o.isComplete then
      let s := s.modOrder number fun o => { o with state := .complete }
      let s := match o.lane with
        | some n => s.modLane n fun l => { l with state := .done, minute := .stopped }
        | none => s
      s.orderNotice .complete number 0
    else s
  | none => s

/-- Dispatch accounting for a record (R40). -/
def account (n : TrackNo) (s : State) : State :=
  match s.pallet n with
  | some p =>
    match p.assignment with
    | some a =>
      let s := s.modOrder a.order (Order.account a.line (s.dispatchEntry p))
      let s := (s.notify (palletEvent .dispatched n p none)).retire n
      s.testComplete a.order
    | none => s
  | none => s

end State

end Sys2Proof.Machine
end

