-- ==== Sys2Proof/Machine/Check.lean ====
section
/-! DEFINITION. The Check Unit (file 03): arming, weight and frame capture, the verdict, acceptance, the hold, the
PROFILE_WANTED queries, the emergency stop. -/

namespace Sys2Proof.Machine

namespace State

/-! ### Arming (R51, R77) -/

/-- The captures armed with fresh timers (R51, R77). -/
def armCaptures (s : State) : State :=
  s.modCku fun c => { c with
    state := .capturing, weight := .armed, frame := .armed,
    weightTimer := .running s.sdu.inForce.weight, scanTimer := .running s.sdu.inForce.scan }

/-- Arrival of a record in SCAN: an ENTERING record is armed (R51). -/
def arm (n : TrackNo) (s : State) : State :=
  if s.palletState n = some .entering then
    ((s.modPallet n fun p => { p with state := .checking, attempts := p.attempts + 1 }).modCku fun c => { c with
      track := some n, snapshot := none, rows := 0, counts := Counts.zero, recipe := none,
      holdEnded := c.holdEnded.filter (· != n) }).armCaptures
  else s

/-- RESTART LINE re-arms an abandoned check (R77). -/
def rearm (s : State) : State := if s.cku.state = .abandoned then s.armCaptures else s

/-- The chain opens: a capture is abandoned; the reasons held are those of this capture (R76, log 20). -/
def abandon (s : State) : State :=
  if s.cku.state = .capturing then
    let s := match s.cku.track with
      | some n => s.modPallet n fun p => { p with gross := none, profile := none, reasons := [] }
      | none => s
    s.modCku fun c => { c with
      state := .abandoned, weight := .off, frame := .off, weightTimer := .stopped, scanTimer := .stopped,
      snapshot := none, counts := Counts.zero, rows := 0, recipe := none }
  else s

/-! ### Acceptance (R64) -/

/-- The wrap plan copied from a recipe number; a recipe number of none counts as 0 (log 35). -/
def copyPlan (n : TrackNo) (recipe : Option Nat) (s : State) : State :=
  match recipeEntry (recipe.getD 0) with
  | none => s.modPallet n fun p => { p with plan := none }
  | some i =>
    match s.readRecipeEntry i with
    | (.valid r _, s) => s.modPallet n fun p => { p with plan := some r }
    | (_, s) => s.modPallet n fun p => { p with plan := none, recipeMissing := true }

/-- Allocation and the copy of the plan; NO_DEMAND is added when allocation fails (R63). -/
def acceptOrNoDemand (n : TrackNo) (recipe : Option Nat) (s : State) : State :=
  match s.allocate n with
  | some s => s.copyPlan n recipe
  | none => s.addReasonTo n .noDemand

/-! ### The verdict (R60 to R63) -/

def WeightCapture.isIn : WeightCapture → Bool
  | .taken | .timedOut => true
  | .off | .armed => false

def FrameCapture.isIn : FrameCapture → Bool
  | .ended | .timedOut => true
  | .off | .armed | .isOpen => false

/-- Add a list of reasons to a record. -/
def addReasons (n : TrackNo) (rs : List Reason) (s : State) : State := rs.foldl (fun s r => s.addReasonTo n r) s

/-- The frame of the present check was whole: ended against a snapshot without SCAN_FAULT or SCAN_SHORT (R58). -/
def wholeFrame (s : State) (p : Pallet) : Bool :=
  s.cku.frame == .ended && s.cku.snapshot.isSome && !p.reasons.contains .scanFault && !p.reasons.contains .scanShort

/-- The profile used at the verdict (R62): the snapshot, or after NO_SCAN the profile as SDU presents it, whose recipe
becomes the check's. -/
def verdictProfile (t : Tag) (s : State) : Option Profile × State :=
  if s.cku.frame = .timedOut then
    match s.readProfileOf t.product with
    | (.valid p _, s) => (some p, s.modCku fun c => { c with recipe := some p.recipe })
    | (_, s) => (none, s)
  else (s.cku.snapshot, s)

/-- The reasons of the table of R61 for a tagged record, given the profile used. -/
def verdictReasons (s : State) (p : Pallet) (t : Tag) (used : Option Profile) : List Reason :=
  match used with
  | none => if s.cku.frame = .timedOut then [.noProfile] else []
  | some f =>
    (match p.gross with | some g => weightReasons f t.units g | none => []) ++
      (match p.profile with
        | some r => if s.wholeFrame p then heightReasons f r else []
        | none => [])

/-- The verdict on the check track. -/
def verdict (s : State) : State :=
  match s.cku.track with
  | none => s
  | some n =>
    let seq := s.trt.checkSeq + 1
    let time := s.now
    let s := (s.modTrt fun t => { t with checkSeq := seq }).modPallet n fun p =>
      { p with checkSeq := some seq, verdictTime := some time }
    let s := match s.pallet n with
      | none => s
      | some p =>
        match p.tag with
        | none => s.addReasonTo n .noTag
        | some t =>
          let (used, s) := s.verdictProfile t
          s.addReasons n (s.verdictReasons p t used)
    let s := match s.pallet n with
      | some p => if p.reasons.isEmpty then s.acceptOrNoDemand n s.cku.recipe else s
      | none => s
    (s.modCku fun c => { c with state := .done }).stopWaiting n

/-- The verdict is taken when the weight result and the frame result are both in (R60). -/
def tryVerdict (s : State) : State :=
  if s.cku.state = .capturing ∧ WeightCapture.isIn s.cku.weight = true ∧ FrameCapture.isIn s.cku.frame = true then
    s.verdict
  else s

/-- Add a reason to the check track. -/
def checkReason (r : Reason) (s : State) : State :=
  match s.cku.track with
  | some n => s.addReasonTo n r
  | none => s

/-! ### Weight capture (R52, R53) -/

/-- A reading; the weight in tenths of a kilogram. -/
def takeWeight (weight : Int) (stable : Bool) (s : State) : State :=
  if s.cku.weight = .armed ∧ stable = true ∧ 0 ≤ weight ∧ weight ≤ Config.highestWeight then
    let s := match s.cku.track with
      | some n => s.modPallet n fun p => { p with gross := some weight.toNat }
      | none => s
    (s.modCku fun c => { c with weight := .taken, weightTimer := .stopped }).tryVerdict
  else s

def weightTimeout (s : State) : State :=
  if s.cku.weightTimer.isRunning && s.cku.weight == .armed then
    ((s.checkReason .noWeight).modCku fun c => { c with weight := .timedOut, weightTimer := .stopped }).tryVerdict
  else s

/-! ### The scan frame (R54 to R59) -/

/-- The tag's declared units are below the profile's full units (R55). -/
def isPart (s : State) (f : Profile) : Bool :=
  match s.cku.track.bind s.pallet with
  | some p => match p.tag with
    | some t => decide (t.units < f.fullUnits)
    | none => false
  | none => false

/-- The frame result is in: frame capture ENDED, scan timer stopped. -/
def closeFrame (s : State) : State := s.modCku fun c => { c with frame := .ended, scanTimer := .stopped }

/-- The profile result written from the rows received so far (R58). -/
def writeResult (f : Profile) (s : State) : State :=
  let c := s.cku
  let r : ProfileResult := {
    overs := c.counts.overs, unders := c.counts.unders, invalid := c.counts.invalid, highest := c.counts.highest,
    degraded := c.frameInhibit.any, part := s.isPart f }
  match c.track with
  | some n => s.modPallet n fun p => { p with profile := some r }
  | none => s

/-- A frame end, or an end by a row fault or by the scan timer (R56, R58, R59). -/
def endFrame (rowFault : Bool) (s : State) : State :=
  match s.cku.frame, s.cku.snapshot, s.cku.track with
  | .isOpen, some f, some n =>
    (((s.writeResult f).addReasons n (frameReasons f s.cku.counts s.cku.rows rowFault)).closeFrame).tryVerdict
  | _, _, _ => s

/-- A frame begin taken while armed: the snapshot (R54, R55). -/
def openFrame (s : State) : State :=
  let s := s.modCku fun c => { c with
    frame := .isOpen, frameInhibit := c.headInhibit, rows := 0, counts := Counts.zero }
  match (s.cku.track.bind s.pallet).bind (·.tag) with
  | none => s.closeFrame.tryVerdict
  | some t =>
    match s.readProfileOf t.product with
    | (.valid f _, s) => s.modCku fun c => { c with snapshot := some f, recipe := some f.recipe }
    | (.empty _, s) => ((s.checkReason .noProfile).closeFrame).tryVerdict
    | (.damaged, s) => ((s.checkReason .referenceDamaged).closeFrame).tryVerdict

/-- A frame begin (R54). -/
def beginFrame (s : State) : State :=
  match s.cku.frame with
  | .armed => s.openFrame
  | .isOpen =>
    let s := match s.cku.snapshot with
      | some f => s.writeResult f
      | none => s
    ((s.checkReason .scanShort).closeFrame).tryVerdict
  | .ended | .timedOut | .off => s.notify (.station .strayFrame .scanner none none none none 0)

/-- A row (R56). -/
def takeRow (row : Nat) (cells : List Word16) (s : State) : State :=
  match s.cku.frame, s.cku.snapshot with
  | .isOpen, some f =>
    if row = s.cku.rows ∧ row < Config.frameRows then
      s.modCku fun c => { c with
        rows := c.rows + 1, counts := c.counts.row f (s.isPart f) c.frameInhibit row 0 cells }
    else s.endFrame true
  | _, _ => s

/-- The scan timer expires (R59). -/
def scanTimeout (s : State) : State :=
  if s.cku.scanTimer.isRunning then
    match s.cku.frame with
    | .armed =>
      ((s.checkReason .noScan).modCku fun c => { c with frame := .timedOut, scanTimer := .stopped }).tryVerdict
    | .isOpen => s.endFrame false
    | _ => s.modCku fun c => { c with scanTimer := .stopped }
  else s

/-! ### Leaving SCAN and the hold (R65 to R71) -/

/-- A record enters HELD at DIV1 (R66). -/
def hold (n : TrackNo) (s : State) : State :=
  let s := s.modCku fun c => { c with
    holdTrack := some n, holdRecipe := c.recipe, holdTimer := .running s.sdu.inForce.hold }
  let s := s.enter n .held .held
  match s.pallet n with
  | some p => s.ask (.holdDecision n p.reasons s.sdu.inForce.hold)
  | none => s

/-- Arrival of the check track in DIV1: the record's state is decided from its reasons and attempts count (R65). -/
def decideAtDiv1 (n : TrackNo) (s : State) : State :=
  if s.cku.track = some n then
    let s := match s.pallet n with
      | some p =>
        if p.reasons.isEmpty then s.enter n .accepted .accepted
        else if p.reasons.all Reason.overridable && decide (p.attempts < Config.attemptLimit) then s.hold n
        else s.reject n none
      | none => s
    s.modCku fun c => { c with state := .idle, track := none, snapshot := none }
  else s

/-- A hold ends: timer stopped, query withdrawn, the number put into the hold-ended list (R68 to R71). -/
def endHold (n : TrackNo) (s : State) : State :=
  (s.withdraw (Question.isHoldOf n)).modCku fun c => { c with
    holdTimer := .stopped, holdTrack := none,
    holdEnded := if c.holdEnded.contains n then c.holdEnded else c.holdEnded ++ [n] }

/-- DECIDE HOLD OVERRIDE (R68). -/
def overrideHold (n : TrackNo) (s : State) : State :=
  let s := (s.endHold n).modPallet n fun p => { p with reasons := [] }
  match s.allocate n with
  | some s => (s.copyPlan n s.cku.holdRecipe).enter n .accepted .accepted
  | none => s.reject n (some .noDemand)

/-- DECIDE HOLD DIVERT, and the expiry of the hold timer (R69, R70). -/
def divertHold (n : TrackNo) (s : State) : State := (s.endHold n).reject n none

def holdTimeout (s : State) : State :=
  match s.cku.holdTrack with
  | some n =>
    if s.cku.holdTimer.isRunning && s.palletState n == some .held then s.divertHold n else s
  | none => s

/-! ### Profiles wanted (R72) -/

/-- TRT hands on the tag of a record that now stands at IN. -/
def wantProfile (n : TrackNo) (s : State) : State :=
  match (s.pallet n).bind (·.tag) with
  | none => s
  | some t =>
    match s.readProfileOf t.product with
    | (.valid _ _, s) => s
    | (_, s) =>
      if s.profileAsked t.product then
        s.modCku fun c => { c with waiters := c.waiters.map fun w =>
          if w.product = t.product ∧ w.tracks.contains n = false then { w with tracks := w.tracks ++ [n] } else w }
      else
        (s.ask (.profileWanted t.product n)).modCku fun c => { c with waiters := c.waiters ++ [⟨t.product, [n]⟩] }

end State

end Sys2Proof.Machine
end

