-- ==== Sys2Proof/Machine/Label.lean ====
section
/-! DEFINITION. The Label Unit (file 06): the serial supply, the composition of the labels, the apply and read cycle, the
stop and the restore, the emergency stop, the end of an order. -/

namespace Sys2Proof.Machine

namespace State

/-! ### The serial supply (R133 to R136) -/

/-- The low-water test (R134), which asks a reservation or finds the numbers exhausted (R136); the notice names the site
entry (log 48). -/
def lowWater (s : State) : State :=
  let l := s.lbu
  if l.reservedEnd ≤ l.next + Config.lowWater ∧ l.inFlight = false ∧ l.block = none ∧ l.exhausted = false then
    if l.reservedEnd + Config.reservationBlock > Config.highestMark then
      (s.modLbu fun l => { l with exhausted := true }).notify
        (.store .serialsExhausted .site none none l.next l.reservedEnd)
    else s.askReservation
  else s

/-- A serial may be issued (R133). -/
def canIssue (s : State) : Bool := s.lbu.block.isNone && decide (s.lbu.next < s.lbu.reservedEnd)

/-- The next serial issued to a record, and the low-water test (R133). -/
def issueTo (n : TrackNo) (s : State) : State :=
  let number := s.lbu.next
  ((s.modPallet n fun p => { p with serial := some number }).modLbu fun l => { l with next := l.next + 1 }).lowWater

/-- A record waits for its serial or for the site entry; under SITE_DAMAGED with a STORE notice DAMAGED (R133, R135,
R137). -/
def waitForSerial (n : TrackNo) (s : State) : State :=
  let s := s.modLbu fun l => { l with state := .waitSerial, track := some n }
  if s.lbu.block = some .siteDamaged then s.storeNotice .damaged .site (some n) else s

/-! ### Content (R137) -/

/-- The product name printed: empty when no VALID entry with a holding check word is found. -/
def productName (product : Nat) (s : State) : Text × State :=
  match s.readProfileOf product with
  | (.valid f _, s) => (f.name, s)
  | (_, s) => ([], s)

/-- The content of a record's labels under a site prefix. -/
def contentOf (s : State) (p : Pallet) (t : Tag) (name sitePrefix : Text) : LabelContent :=
  let number := (p.assignment.map (·.order)).getD 0
  let serial := serialText sitePrefix (p.serial.getD 0)
  { destination := ((s.order number).map (·.destination)).getD [], order := number, product := t.product, name := name,
    batch := t.batch, bestBefore := t.bestBefore, serial := serial, readBack := readBackText serial number }

/-- The content composed for a record; none when the site entry is DAMAGED. The profile is read first (log 38). -/
def compose (n : TrackNo) (s : State) : Option LabelContent × State :=
  match s.pallet n with
  | none => (none, s)
  | some p =>
    match p.tag with
    | none => (none, s)
    | some t =>
      let (name, s) := s.productName t.product
      match s.readSite with
      | (.valid c _, s) => (some (s.contentOf p t name (c.sitePrefix.getD [])), s)
      | (_, s) => (none, s)

/-! ### Applies and reads (R138, R139) -/

def faceStep (s : State) (f : Face) : FaceStep := s.lbu.steps.face f

def setStep (f : Face) (step : FaceStep) (s : State) : State :=
  s.modLbu fun l => { l with steps := l.steps.setFace f step }

/-- Stop the apply timer of a head. -/
def stopApply (f : Face) (s : State) : State :=
  s.modLbu fun l => { l with applyTimers := l.applyTimers.setFace f .stopped }

def stopRead (s : State) : State := s.modLbu fun l => { l with readTimer := .stopped }

/-- Change a face's result and attempt count in the label track's record. -/
def modFace (f : Face) (g : FaceRecord → FaceRecord) (s : State) : State :=
  match s.lbu.track with
  | some n => s.modPallet n fun p => { p with faces := p.faces.setFace f (g (p.faces.face f)) }
  | none => s

/-- The attempt count of a face of the label track's record. -/
def faceAttempts (s : State) (f : Face) : Nat :=
  match s.lbu.track.bind s.pallet with
  | some p => (p.faces.face f).attempts
  | none => 0

/-- Print and apply: the content sent to the head, the attempt counted, the apply timer started. -/
def sendApply (f : Face) (s : State) : State :=
  (((s.modPorts fun o => { o with head := o.head.setFace f s.lbu.content }).setStep f .applying).modLbu fun l =>
    { l with applyTimers := l.applyTimers.setFace f (.running Config.applySeconds) }).modFace f
      fun r => { r with attempts := r.attempts + 1 }

/-- A print-and-apply sent to each head whose face is TO_APPLY. -/
def sendApplies (s : State) : State :=
  let s := if s.faceStep .side = .toApply then s.sendApply .side else s
  if s.faceStep .fend = .toApply then s.sendApply .fend else s

/-- The reader asked for a face. -/
def askRead (f : Face) (s : State) : State :=
  ((s.modPorts fun o => { o with reader := some f }).setStep f .reading).modLbu fun l =>
    { l with readTimer := .running Config.readSeconds }

def anyStep (s : State) (step : FaceStep) : Bool := s.faceStep .side == step || s.faceStep .fend == step

/-! ### The outcome (R140) -/

/-- The cycle ends: faces DONE, timers stopped, content discarded, unit IDLE with no label track. -/
def endCycle (s : State) : State :=
  s.modLbu fun l => { l with
    state := .idle, track := none, suspended := false, content := none, steps := ⟨.done, .done⟩,
    applyTimers := ⟨.stopped, .stopped⟩, readTimer := .stopped }

def rejectCycle (reason : Reason) (s : State) : State :=
  match s.lbu.track with
  | some n => (s.reject n (some reason)).endCycle
  | none => s.endCycle

/-- Both faces MATCH: LABELLED, or REJECTED with ORDER_ENDED when orphaned. -/
def passCycle (s : State) : State :=
  match s.lbu.track with
  | none => s.endCycle
  | some n =>
    match s.pallet n with
    | none => s.endCycle
    | some p =>
      if p.orphaned then s.rejectCycle .orderEnded
      else
        let time := s.now
        ((s.modPallet n fun p => { p with labelledTime := some time }).enter n .labelled .labelled).endCycle

/-- The end of a round of reads. -/
def endRound (s : State) : State :=
  if (s.faceStep .side == .waiting && decide (Config.applyLimit ≤ s.faceAttempts .side)) ||
      (s.faceStep .fend == .waiting && decide (Config.applyLimit ≤ s.faceAttempts .fend)) then
    s.rejectCycle .labelNoRead
  else if s.anyStep .waiting then
    let s := if s.faceStep .side = .waiting then s.setStep .side .toApply else s
    let s := if s.faceStep .fend = .waiting then s.setStep .fend .toApply else s
    s.sendApplies
  else s.passCycle

/-- What a cycle that is not held does next: applies owed, else the next read when neither face is being applied, else the
end of the round (R138 to R140). -/
def advance (s : State) : State :=
  if s.anyStep .toApply then s.sendApplies
  else if s.anyStep .applying || s.anyStep .reading then s
  else if s.faceStep .side = .toRead then s.askRead .side
  else if s.faceStep .fend = .toRead then s.askRead .fend
  else s.endRound

/-- The unit is in CYCLE and not held by the emergency-stop chain. -/
def cycling (s : State) : Bool := s.lbu.state == .cycle && !s.lbu.suspended

/-! ### The begin of label work (R130, R131, R133) -/

/-- The begin of a cycle: the content composed, both faces TO_APPLY; held when the line is STOPPED (R133, R137, R138,
R144). -/
def beginCycle (n : TrackNo) (s : State) : State :=
  match s.compose n with
  | (none, s) => s.waitForSerial n
  | (some content, s) =>
    let s := s.modLbu fun l => { l with
      state := .cycle, track := some n, content := some content, steps := ⟨.toApply, .toApply⟩,
      suspended := s.lsv.line == .stopped }
    if s.cycling then s.advance else s

/-- The record becomes LABELLING; its serial is held, issued or awaited. -/
def startLabelWork (n : TrackNo) (s : State) : State :=
  let s := (s.modPallet n fun p => { p with state := .labelling }).modLbu fun l => { l with track := some n }
  match (s.pallet n).bind (·.serial) with
  | some _ => s.beginCycle n
  | none => if s.canIssue then (s.issueTo n).beginCycle n else s.waitForSerial n

/-- Re-allocation of an orphaned record: the new assignment clears the flag; none is NO_DEMAND (R131). -/
def reallocate (n : TrackNo) (s : State) : Option State :=
  (s.allocate n).map fun s => s.modPallet n fun p => { p with orphaned := false }

/-- Arrival of a record in LABEL (R130). -/
def arriveLabel (n : TrackNo) (s : State) : State :=
  match s.pallet n with
  | none => s
  | some p =>
    if p.state = .wrapped then
      if p.orphaned then
        match s.reallocate n with
        | some s => s.startLabelWork n
        | none => s.reject n (some .orderEnded)
      else s.startLabelWork n
    else s

/-! ### Answers of the heads and the reader (R138, R139, R141) -/

/-- APPLIED taken while the face is APPLYING (R138). An answer carries no number: the late answer of an apply that expired
or was voided is taken as that of the new one once the face is APPLYING again (log 50). -/
def applied (f : Face) (s : State) : State :=
  if s.faceStep f = .applying then
    let s := (s.stopApply f).setStep f .toRead
    if s.cycling then s.advance else s
  else s

/-- A read in flight is voided: its face returns to TO_READ. -/
def voidRead (s : State) : State :=
  let back (f : Face) (s : State) : State := if s.faceStep f = .reading then s.setStep f .toRead else s
  ((back .side s |> back .fend)).stopRead

/-- A head answers FAULT or is silent while its face is APPLYING: the unit stops (R141); a late FAULT by log 50. -/
def headFailed (f : Face) (cause : LabellerCause) (s : State) : State :=
  if s.faceStep f = .applying then
    let s := (((s.stopApply f).setStep f .toApply).voidRead).modLbu fun l => { l with state := .stopped }
    s.notify (.station .labellerStopped (.head f) s.lbu.track none none (some cause) 0)
  else s

def applyTimeout (f : Face) (s : State) : State :=
  if (s.lbu.applyTimers.face f).isRunning then s.headFailed f .noAnswer else s

/-- The result of the read of a face that is READING (R139, R140). The late answer of a read that expired or was voided is
taken as that of the new one once the face is READING again (log 51). -/
def readResult (f : Face) (result : FaceResult) (s : State) : State :=
  if s.faceStep f = .reading then
    let s := s.stopRead.modFace f fun r => { r with result := result }
    match result with
    | .isMatch => (s.setStep f .done).advance
    | .mismatch => s.rejectCycle .labelMismatch
    | .noRead | .notDone => (s.setStep f .waiting).advance
  else s

/-- Decoded text of a face, compared with the read-back text of the content. -/
def readText (f : Face) (text : Text) (s : State) : State :=
  match s.lbu.content with
  | some c => s.readResult f (if text = c.readBack then .isMatch else .mismatch)
  | none => s

def readTimeout (s : State) : State :=
  if s.lbu.readTimer.isRunning then
    if s.faceStep .side = .reading then s.readResult .side .noRead else s.readResult .fend .noRead
  else s

/-! ### Resuming and stopping (R142, R144, R145) -/

/-- A face TO_APPLY with two attempts behind it is written NO_READ; true when there is one. -/
def spent (s : State) (f : Face) : Bool :=
  s.faceStep f == .toApply && decide (Config.applyLimit ≤ s.faceAttempts f)

/-- A stopped or suspended cycle resumes. -/
def resumeCycle (s : State) : State :=
  let s := s.modLbu fun l => { l with state := .cycle, suspended := false }
  if s.spent .side || s.spent .fend then
    let mark (f : Face) (s : State) : State :=
      if s.spent f then s.modFace f fun r => { r with result := .noRead } else s
    ((mark .side s |> mark .fend)).rejectCycle .labelNoRead
  else s.advance

/-- RESTORE LABELLER taken (R142). -/
def restoreLabeller (s : State) : State :=
  if s.lsv.line = .stopped then s.modLbu fun l => { l with state := .cycle, suspended := true } else s.resumeCycle

/-- The chain opens: a cycle is suspended, its applies and read voided (R144). -/
def suspendCycle (s : State) : State :=
  if s.lbu.state = .cycle then
    let back (f : Face) (s : State) : State :=
      if s.faceStep f = .applying then (s.stopApply f).setStep f .toApply else s
    ((back .side s |> back .fend).voidRead).modLbu fun l => { l with suspended := true }
  else s

/-- RESTART LINE: the suspended mark is cleared and a suspended cycle resumes (R145). -/
def unsuspend (s : State) : State :=
  if s.lbu.suspended then
    if s.lbu.state = .cycle then s.resumeCycle else s.modLbu fun l => { l with suspended := false }
  else s

/-! ### The end of an order (R143) -/

/-- LBU acts on the record in LABEL when the end orphaned it. -/
def labelOrderEnded (orphans : List TrackNo) (s : State) : State :=
  match s.lbu.track with
  | some n =>
    if s.lbu.state = .waitSerial ∧ n ∈ orphans then
      match s.reallocate n with
      | some s => s
      | none => (s.reject n (some .orderEnded)).modLbu fun l => { l with state := .idle, track := none }
    else s
  | none =>
    match s.occupant .label with
    | some n => if n ∈ orphans ∧ s.palletState n = some .labelled then s.reject n (some .orderEnded) else s
    | none => s

/-! ### The completion of site writes (R134, R135) -/

/-- A record waiting that needs a serial is served when one can be issued. -/
def serveSerial (s : State) : State :=
  match s.lbu.state, s.lbu.track with
  | .waitSerial, some n =>
    match (s.pallet n).bind (·.serial) with
    | none => if s.canIssue then (s.issueTo n).beginCycle n else s
    | some _ => s
  | _, _ => s

/-- A record waiting that holds a serial begins its cycle. -/
def serveHeld (s : State) : State :=
  match s.lbu.state, s.lbu.track with
  | .waitSerial, some n =>
    match (s.pallet n).bind (·.serial) with
    | some _ => s.beginCycle n
    | none => s
  | _, _ => s

/-- A reservation completed DONE (R134). -/
def reservationDone (s : State) : State :=
  ((s.modLbu fun l => { l with
    inFlight := false, reservedEnd := l.reservedEnd + Config.reservationBlock }).serveSerial).lowWater

/-- SET SITE or RECOVER SERIALS completed DONE with a mark (R135). -/
def siteSet (mark : Nat) (s : State) : State :=
  ((s.modLbu fun l => { l with next := mark, reservedEnd := mark, block := none, exhausted := false }).lowWater).serveHeld

/-- The range and the issue block from the site entry at the end of start-up, and the first reservation (R146). -/
def setRange (s : State) : State :=
  let put (m : Nat) (b : Option IssueBlock) : State :=
    s.modLbu fun l => { l with next := m, reservedEnd := m, block := b }
  match s.sdu.site with
  | .valid c _ => match c.sitePrefix with
    | some _ => (put c.mark none).lowWater
    | none => put 0 (some .noSite)
  | _ => put 0 (some .siteDamaged)

end State

end Sys2Proof.Machine
end

