-- ==== Sys2Proof/Machine/Lanes.lean ====
section
/-! DEFINITION. The Lane Unit (file 07): binding, the countdown and its warning, the release and the start of the gate
departure. -/

namespace Sys2Proof.Machine

namespace State

/-! ### Release (R158, R159, R97) -/

/-- The gate departure starts: GATE-n LEAVING with no record, the move timer started, drive on, gate n open (R97). -/
def departGate (n : Lane) (s : State) : State :=
  (s.modZone (.gate n) fun r => { ZoneRecord.free with
    eye := r.eye, state := .leaving, moveTimer := .running s.sdu.inForce.move, drive := true }).modZnc
    fun u => { u with gates := u.gates.set n true }

/-- The release test of lane n and, when it passes, the release (R158, R159). -/
def testRelease (n : Lane) (s : State) : State :=
  match s.releaseTest n with
  | some t => (s.account t).departGate n
  | none => s

/-- The release test made at every lane, 1 to 6 (R202, R205; the order by log 45). -/
def testReleases (s : State) : State := Lane.all.foldl (fun s n => s.testRelease n) s

/-! ### The countdown (R151, R152) -/

/-- The warning test of a lane. -/
def warnLane (n : Lane) (s : State) : State :=
  let l := s.lane n
  let point := s.sdu.inForce.warning
  if 0 < point ∧ l.remaining ≤ point ∧ 0 < l.remaining ∧ l.warned = false then
    (s.modLane n fun l => { l with warned := true }).notify (.lane .warning n l.order l.remaining none)
  else s

/-! ### Requests of the lanes (R149, R150, R153, R154) -/

/-- BIND LANE taken: LNU's and OBK's part and the warning test; ZNC is told by the caller. -/
def bindLane (n : Lane) (order minutes : Nat) (s : State) : State :=
  let s := s.modLane n fun l => { l with
    state := .bound, order := some order, remaining := minutes, warned := false, endCause := none,
    minute := .running Config.minuteSeconds }
  (s.modOrder order fun o => { o with state := .bound, lane := some n }).warnLane n

/-- The conditions of UNBIND LANE. -/
def mayUnbind (s : State) (n : Lane) : Bool :=
  ((s.lane n).state == .done || (s.lane n).state == .ended) && s.isFree (.gate n) && s.znc.route != some n

def unbindLane (n : Lane) (s : State) : State :=
  let order := (s.lane n).order
  let s := s.modLane n fun l => { l with
    state := .closed, order := none, remaining := 0, warned := false, endCause := none, minute := .stopped }
  match order with
  | some number => s.modOrder number fun o => { o with lane := none }
  | none => s

def pauseLane (n : Lane) (s : State) : State :=
  s.modLane n fun l => { l with state := .paused, minute := .held (max 1 l.minute.left) }

def resumeLane (n : Lane) (s : State) : State :=
  (s.modLane n fun l => { l with state := .bound, minute := .running l.minute.left }).testRelease n

/-- EXTEND CUT-OFF: at most 240 minutes; the warned mark is cleared above the warning setting. -/
def extendLane (n : Lane) (minutes : Nat) (s : State) : State :=
  s.modLane n fun l =>
    let remaining := min Config.laneMinutes (l.remaining + minutes)
    { l with remaining := remaining, warned := l.warned && decide (remaining ≤ s.sdu.inForce.warning) }

/-- A truck-present change taken: written in every lane state, and at becoming active the release test (R148). -/
def truckChanged (n : Lane) (active : Bool) (s : State) : State :=
  let s := s.modLane n fun l => { l with truck := active }
  if active then s.testRelease n else s

end State

end Sys2Proof.Machine
end

