-- ==== Sys2Proof/Machine/Wrap.lean ====
section
/-! DEFINITION. The Wrap Sequencer (file 05): the station channel, the step, film, pauses, faults, the abort, the status
query. -/

namespace Sys2Proof.Machine

/-! ### The station channel (R111) -/

/-- A command sent: next number, channel SENT, resend count 0, acceptance timer started, last-sent time written. R111 gives
the resend count and the last-sent time for a pass command; that a status query writes them too is logs 37 and 49. -/
def Channel.send (kind : PassKind) (time : Stamp) (c : Channel) : Channel :=
  { c with
    state := .sent, command := some ⟨kind, c.last + 1⟩, last := c.last + 1, resend := 0, acceptance := true,
    lastSent := time }

/-- No command in flight and both timers stopped. -/
def Channel.idled (c : Channel) : Channel :=
  { c with state := .idle, command := none, acceptance := false, pass := .stopped }

/-- The pass in flight that an answer with a number speaks of: none when the number is another, the channel is IDLE, or a
status query is in flight (R111, R113). -/
def Channel.passOf (number : Byte) (c : Channel) : Option PassKind :=
  match c.state, c.command with
  | .idle, _ => none
  | _, some f => if f.number = number ∧ f.kind ≠ .statusQuery then some f.kind else none
  | _, none => none

/-- A status query in flight with a number (R111). -/
def Channel.isQuery (number : Byte) (c : Channel) : Bool :=
  c.state == .sent && c.command == some ⟨.statusQuery, number⟩

namespace State

/-- Send a command on a wrapper's channel; nothing is sent unless it is IDLE (R111). -/
def send (w : Wrapper) (kind : PassKind) (prestretch : Nat) (film : Option Nat) (s : State) : State :=
  if (s.wrapper w).channel.state = .idle then
    let s := s.modWrapper w fun r => { r with channel := r.channel.send kind s.now }
    s.modPorts fun o => { o with
      station := o.station.setWrapper w (some ⟨kind, (s.wrapper w).channel.last, prestretch, film⟩) }
  else s

/-- The track number of a wrapper's tracked load. -/
def loadTrack (s : State) (w : Wrapper) : Option TrackNo :=
  match (s.wrapper w).load with
  | .track n => some n
  | _ => none

/-- The record a wrapper holds. -/
def loaded (s : State) (w : Wrapper) : Option Pallet := (s.loadTrack w).bind s.pallet

/-- Change the record a wrapper holds. -/
def modLoaded (w : Wrapper) (f : Pallet → Pallet) (s : State) : State :=
  match s.loadTrack w with
  | some n => s.modPallet n f
  | none => s

def stationNotice (event : StationEvent) (w : Wrapper) (track : Option TrackNo) (pass : Option PassKind)
    (fault : Option FaultCause) (film : Nat) (s : State) : State :=
  s.notify (.station event (.wrapper w) track pass fault none film)

def pauseWrap (w : Wrapper) (cause : PauseCause) (s : State) : State :=
  s.modWrapper w fun r => { r with state := .paused, pauseCause := some cause }

/-! ### The abort (R124) -/

/-- The abort ends: the record WRAP_STOPPED, the wrapper OFFLINE with it. -/
def endAbort (w : Wrapper) (s : State) : State :=
  (s.modLoaded w fun p => { p with state := .wrapStopped }).modWrapper w fun r =>
    { r with state := .offline, pauseCause := none, abortPending := false, abortCut := false }

/-- The abort is taken: a CUT is sent when film is on the pallet and the line is RUNNING, else it ends at once. -/
def takeAbort (w : Wrapper) (s : State) : State :=
  match s.loaded w with
  | some p =>
    if (0 < p.passesDone ∨ (s.wrapper w).sheetDone = true) ∧ s.lsv.line = .running then
      (s.modWrapper w fun r => { r with state := .wrapping, pauseCause := none, abortCut := true }).send w .cut
        ((p.plan.map (·.prestretch)).getD 0) none
    else s.endAbort w
  | none => s.endAbort w

/-! ### The step (R109) -/

/-- A step of the plan, the wrapper counted as WRAPPING. -/
def wrapStep (w : Wrapper) (s : State) : State :=
  let s := s.modWrapper w fun r => { r with state := .wrapping, pauseCause := none }
  if s.lsv.line ≠ .running then s.pauseWrap w (if s.lsv.line = .halted then .halt else .estop)
  else if (s.wrapper w).abortPending then s.takeAbort w
  else
    match s.loaded w with
    | none => s
    | some p =>
      let r := s.wrapper w
      let plan := p.plan
      match nextPass plan p.passesDone r.sheetDone r.cutDone with
      | none =>
        (s.modLoaded w fun p => { p with state := .wrapped }).modWrapper w fun r => { r with state := .discharging }
      | some kind =>
        let film := (plan.map (·.film)).getD 0
        if kind.isFilm && decide (r.film < film) then
          (s.pauseWrap w .filmOut).stationNotice .filmOut w (s.loadTrack w) none none r.film
        else s.send w kind ((plan.map (·.prestretch)).getD 0) (if kind.isFilm then some film else none)

/-- Arrival of a record in the wrapper zone: the wrap begins (R108). -/
def beginWrap (w : Wrapper) (n : TrackNo) (s : State) : State :=
  ((s.modPallet n fun p => { p with wrapper := some w, state := .wrapping }).modWrapper w fun r => { r with
    state := .wrapping, load := .track n, sheetDone := false, cutDone := false, abortPending := false,
    abortCut := false, dischargeUnderWay := false }).wrapStep w

/-- The line became RUNNING: a wrapper paused with cause HALT or ESTOP resumes (R117). -/
def resumeWrap (w : Wrapper) (s : State) : State :=
  let r := s.wrapper w
  if r.state = .paused ∧ (r.pauseCause = some .halt ∨ r.pauseCause = some .estop) then s.wrapStep w else s

/-- The chain opens: the pass in flight of a WRAPPING wrapper is voided and it pauses with cause ESTOP (R118). -/
def stopWrap (w : Wrapper) (s : State) : State :=
  if (s.wrapper w).state = .wrapping then
    (s.modWrapper w fun r => { r with channel := r.channel.idled, abortCut := false }).pauseWrap w .estop
  else s

/-! ### Faults (R120) -/

def faultWrap (w : Wrapper) (cause : FaultCause) (s : State) : State :=
  let pass := (s.wrapper w).channel.command.map (·.kind)
  let s := s.modWrapper w fun r => { r with
    state := .faulted, faultCause := some cause, pauseCause := none, abortPending := false, abortCut := false,
    channel := r.channel.idled }
  let s := s.modLoaded w fun p => if p.state = .wrapping then { p with state := .wrapStopped } else p
  s.stationNotice .faulted w (s.loadTrack w) pass (some cause) 0

/-! ### Answers of the station (R112, R113, R115) -/

/-- ACCEPTED for the pass in flight while the channel is SENT. -/
def stationAccepts (w : Wrapper) (number : Byte) (s : State) : State :=
  let c := (s.wrapper w).channel
  if c.state = .sent ∧ (c.passOf number).isSome = true then
    s.modWrapper w fun r => { r with channel := { r.channel with
      state := .working, acceptance := false, pass := .running s.sdu.inForce.pass } }
  else s

/-- An outcome for the pass in flight: the channel is idled and the outcome handled. -/
def stationOutcome (w : Wrapper) (number : Byte) (handle : PassKind → State → State) (s : State) : State :=
  match (s.wrapper w).channel.passOf number with
  | some kind => handle kind (s.modWrapper w fun r => { r with channel := r.channel.idled })
  | none => s

/-- A film pass counted (R115). -/
def countFilm (w : Wrapper) (s : State) : State :=
  let film := (((s.loaded w).bind (·.plan)).map (·.film)).getD 0
  let s := (s.modLoaded w fun p => { p with passesDone := p.passesDone + 1 }).modWrapper w fun r =>
    { r with film := r.film - film }
  let r := s.wrapper w
  if r.film < Config.lowFilmPoint ∧ r.lowFilmSent = false then
    (s.stationNotice .lowFilm w none none none r.film).modWrapper w fun r => { r with lowFilmSent := true }
  else s

/-- DONE: the pass is counted and the next step taken, or with the CUT of an abort cut done is set and the abort ends (R113). -/
def passDone (w : Wrapper) (kind : PassKind) (s : State) : State :=
  if (s.wrapper w).abortCut then (s.modWrapper w fun r => { r with cutDone := true }).endAbort w
  else match kind with
    | .sheet => (s.modWrapper w fun r => { r with sheetDone := true }).wrapStep w
    | .cut => (s.modWrapper w fun r => { r with cutDone := true }).wrapStep w
    | _ => (s.countFilm w).wrapStep w

/-- FILM_BREAK: nothing is counted; the wrapper pauses, or takes or ends the abort, for which no notice is made (R115,
R124; log 18). -/
def filmBreak (w : Wrapper) (kind : PassKind) (s : State) : State :=
  let r := s.wrapper w
  if r.abortCut then s.endAbort w
  else if r.abortPending then s.takeAbort w
  else (s.pauseWrap w .filmBreak).stationNotice .filmBreak w (s.loadTrack w) (some kind) none 0

/-- FAULT: the wrapper is FAULTED; the notice carries the pass that was in flight (R120). -/
def stationFaults (w : Wrapper) (number : Byte) (s : State) : State :=
  match (s.wrapper w).channel.passOf number with
  | some _ => s.faultWrap w .unitFault
  | none => s

/-- The pass timer expires (R113). -/
def passTimeout (w : Wrapper) (s : State) : State :=
  let c := (s.wrapper w).channel
  if c.state = .working ∧ c.pass.isRunning = true then s.faultWrap w .passTimeout else s

/-! ### The status query (R121, R128) -/

/-- A wrapper reports its pallet ready for discharge (R119). -/
def ready (s : State) (w : Wrapper) : Option TrackNo :=
  if (s.wrapper w).state = .discharging then s.loadTrack w else none

/-- The owed reply of RESTORE WRAPPER is made (R121, R188). -/
def answerRestore (w : Wrapper) (st : Status) (s : State) : State :=
  match (s.wrapper w).owed with
  | some tag => (s.modWrapper w fun r => { r with owed := none }).place (.reply tag 0x30 st [])
  | none => s

/-- A status query ended: at start-up the find is kept for its end; otherwise a healthy report restores a FAULTED wrapper
by its load, and the owed reply is made. -/
def queryEnded (w : Wrapper) (found : Found) (s : State) : State :=
  let s := s.modWrapper w fun r => { r with channel := r.channel.idled }
  if s.lsv.line = .powerUp then s.modWrapper w fun r => { r with found := some found }
  else
    match found with
    | .report true _ =>
      let after := match (s.wrapper w).load with
        | .none => WrapperState.idle
        | .untracked => .stopped
        | .track n => if s.palletState n = some .rejected then .discharging else .stopped
      (s.modWrapper w fun r => { r with state := after, faultCause := none }).answerRestore w .ok
    | _ => s.answerRestore w .wrongState

/-- A status report (R121). -/
def statusReported (w : Wrapper) (number : Byte) (healthy loaded : Bool) (s : State) : State :=
  if (s.wrapper w).channel.isQuery number then s.queryEnded w (.report healthy loaded) else s

/-- The acceptance timer expires: a query ends without a report; a pass command is sent once again, then fails (R112,
R121). -/
def acceptanceTimeout (w : Wrapper) (s : State) : State :=
  let c := (s.wrapper w).channel
  if c.state = .sent ∧ c.acceptance = true then
    match c.command with
    | some f =>
      if f.kind = .statusQuery then s.queryEnded w .silent
      else if c.resend = 0 then
        s.modWrapper w fun r => { r with channel := { r.channel with
          resend := 1, acceptance := true, lastSent := s.now } }
      else s.faultWrap w .noResponse
    | none => s
  else s

/-! ### Reports of the Zone Controller (R107, R119, R126) -/

/-- A move from FEED into the wrapper zone started. -/
def loadingBegun (w : Wrapper) (n : TrackNo) (s : State) : State :=
  s.modWrapper w fun r => { r with state := .loading, load := .track n }

/-- The move into the wrapper zone did not take place. -/
def loadingUndone (w : Wrapper) (s : State) : State :=
  s.modWrapper w fun r => if r.state = .loading then { r with state := .idle, load := .none } else r

def dischargeBegun (w : Wrapper) (s : State) : State := s.modWrapper w fun r => { r with dischargeUnderWay := true }

def dischargeUndone (w : Wrapper) (s : State) : State := s.modWrapper w fun r => { r with dischargeUnderWay := false }

/-- Arrival in the outfeed. -/
def dischargeEnded (w : Wrapper) (s : State) : State :=
  s.modWrapper w fun r =>
    { r with state := if r.state = .discharging then .idle else r.state, load := .none, dischargeUnderWay := false }

/-- The wrapper no longer holds a pallet: its load left by hand (R126). -/
def emptied (w : Wrapper) (s : State) : State :=
  s.modWrapper w fun r => { r with
    load := .none, sheetDone := false, cutDone := false, abortPending := false, dischargeUnderWay := false,
    state := match r.state with
      | .loading | .discharging | .stopped | .idle => .idle
      | other => other }

end State

end Sys2Proof.Machine
end

