-- ==== Sys2Proof/Machine/Zones.lean ====
section
/-! DEFINITION. The Zone Controller (file 04): the start of moves with the splitter and the arbiters, arrivals, jams, gate
departures, interruption and resolution, the repair of zones, the routing at DIV2. -/

namespace Sys2Proof.Machine

namespace State

def zoneNotice (event : ZoneEvent) (z : Zone) (partner : Option Zone) (n : Option TrackNo) (cause : Option ZoneCause)
    (s : State) : State :=
  s.notify (.zone event z partner n cause)

/-! ### The start of a move (R81, R82) -/

/-- A move starts: source LEAVING, destination RESERVED, timer and drives; the diverter or the route output is set. -/
def startMove (src dst : Zone) (n : TrackNo) (s : State) : State :=
  let s := s.modZone src fun r => { r with
    state := .leaving, partner := some dst, moveTimer := .running s.sdu.inForce.move, drive := true }
  let s := s.modZone dst fun r => { r with
    state := .reserved, record := some n, partner := some src, drive := true }
  s.modZnc fun u => match src, dst with
    | .div1, .feed => { u with div1Out := .straight }
    | .div1, _ => { u with div1Out := .spur }
    | .div2, .sort => { u with div2Out := .straight }
    | .div2, _ => { u with div2Out := .spur }
    | .sort, .gate g => { u with routeOut := some g }
    | _, _ => u

/-- The record OCCUPIED in a zone, when the line is RUNNING and a test of it holds. -/
def candidate (s : State) (src : Zone) (ok : Pallet → Bool) : Option TrackNo :=
  match s.occupant src with
  | some n => match s.pallet n with
    | some p => if s.isRunning && ok p then some n else none
    | none => none
  | none => none

/-- Start a move whose row of the move table holds. -/
def tryMove (src dst : Zone) (ok : Pallet → Bool) (s : State) : State :=
  match s.candidate src ok with
  | some n => if s.isFree dst then s.startMove src dst n else s
  | none => s

/-! ### The choices (R89, R91, R98) -/

/-- A wrapper qualifies for the splitter: WSQ state IDLE and zone FREE. -/
def qualifies (s : State) (w : Wrapper) : Bool := (s.wrapper w).state == .idle && s.isFree (.wrap w)

/-- The splitter: the wrapper other than the memory first. -/
def split (s : State) : State :=
  match s.candidate .feed (·.state == .accepted) with
  | none => s
  | some n =>
    let memory := s.znc.splitter
    let chosen := if s.qualifies memory.other then some memory.other
      else if s.qualifies memory then some memory else none
    match chosen with
    | some w =>
      ((s.startMove .feed (.wrap w) n).modZnc fun u => { u with splitter := w }).loadingBegun w n
    | none => s

/-- The move out of a wrapper whose pallet is ready for discharge (R90). -/
def discharge (w : Wrapper) (s : State) : State :=
  match s.ready w with
  | some n =>
    if s.isRunning && s.occupant (.wrap w) == some n && s.isFree (.out w) then
      (s.startMove (.wrap w) (.out w) n).dischargeBegun w
    else s
  | none => s

/-- An outfeed is ready for MERGE: its check sequence. -/
def outfeedReady (s : State) (w : Wrapper) : Option (TrackNo × Nat) :=
  match s.candidate (.out w) (fun p => p.state == .wrapped || p.state == .rejected) with
  | some n => some (n, (((s.pallet n).bind (·.checkSeq)).map BitVec.toNat).getD 0)
  | none => none

/-- The merge arbiter: the lower check sequence, OUT-A when equal (R91); a grant is made at REMOVE PALLET too (log 43). -/
def grantMerge (s : State) : State :=
  if s.isFree .merge then
    match s.outfeedReady .a, s.outfeedReady .b with
    | some (n, a), some (m, b) =>
      if a ≤ b then s.startMove (.out .a) .merge n else s.startMove (.out .b) .merge m
    | some (n, _), none => s.startMove (.out .a) .merge n
    | none, some (m, _) => s.startMove (.out .b) .merge m
    | none, none => s
  else s

/-- The spur-entry arbiter: DIV2 before DIV1 (R98); a grant is made at REMOVE PALLET too (log 43). -/
def grantSpur (s : State) : State :=
  (s.tryMove .div2 (.sp 0) (·.state == .rejected)).tryMove .div1 (.sp 0) (·.state == .rejected)

/-- The lane of the order of a LABELLED record that is not orphaned, when that order is BOUND (R93). -/
def boundLane (s : State) (p : Pallet) : Option Lane :=
  if p.state = .labelled ∧ p.orphaned = false then
    match (p.assignment.map (·.order)).bind s.order with
    | some o => if o.state = .bound then o.lane else none
    | none => none
  else none

/-- The move DIV2 to SORT, which takes the route of the record's lane (R93, R96). -/
def moveToSort (s : State) : State :=
  match s.candidate .div2 (fun p => (s.boundLane p).isSome) with
  | none => s
  | some n =>
    match (s.pallet n).bind s.boundLane with
    | some g =>
      if s.isFree .sort && s.isFree (.gate g) then
        (s.startMove .div2 .sort n).modZnc fun u => { u with route := some g }
      else s
    | none => s

/-- The move SORT to the gate of the route (R96). -/
def moveToGate (s : State) : State :=
  match s.znc.route, s.candidate .sort (fun _ => true) with
  | some g, some n =>
    if s.isFree (.gate g) then
      (s.startMove .sort (.gate g) n).modZnc fun u => { u with route := none }
    else s
  | _, _ => s

/-- CKU has taken the verdict on the record in SCAN (R60). -/
def verdictTaken (s : State) : Bool :=
  s.cku.state == .done && s.cku.track == s.occupant .scan

/-- The label work of a record ended: LABELLED or REJECTED (R132, log 23). -/
def workEnded (p : Pallet) : Bool := p.state == .labelled || p.state == .rejected

/-- Every move whose conditions hold starts; the start of one completes no condition of another (R81, R85). -/
def startMoves (s : State) : State :=
  let s := s.tryMove .infeed .scan (·.state == .entering)
  let s := s.tryMove .scan .div1 (fun _ => s.verdictTaken)
  let s := s.tryMove .div1 .feed (·.state == .accepted)
  let s := s.split
  let s := (s.discharge .a).discharge .b
  let s := s.grantMerge
  let s := s.tryMove .merge .label (fun _ => true)
  let s := s.tryMove .label .div2 workEnded
  let s := s.moveToSort
  let s := s.grantSpur
  let s := s.moveToGate
  let s := s.tryMove (.sp 0) (.sp 1) (fun _ => true)
  let s := s.tryMove (.sp 1) (.sp 2) (fun _ => true)
  s.tryMove (.sp 2) (.sp 3) (fun _ => true)

/-- What ZNC does at the end of an event that may have completed a condition: the moves, then the infeed-ready output. -/
def settle (s : State) : State := s.startMoves.testInfeed

/-! ### Arrivals (R80, R83) -/

/-- An eye made in a FREE zone: IN awaits the tag with the tag timer started, any other zone is UNTRACKED by a stray
pallet. -/
def eyeInFree (z : Zone) (s : State) : State :=
  if z = .infeed then
    (s.modZone z fun r => { ZoneRecord.free with eye := r.eye, state := .awaitingTag }).modTrt
      fun t => { t with tagTimer := .running s.sdu.inForce.tag }
  else (s.untrackZone z).zoneNotice .untracked z none none (some .stray)

/-- The source of a move that arrived becomes FREE, and an eye made there is taken at once. -/
def vacate (z : Zone) (s : State) : State :=
  let s := s.freeZone z
  if (s.zone z).eye then s.eyeInFree z else s

/-- A zone OCCUPIED by a record, which is located in it. -/
def occupy (z : Zone) (n : TrackNo) (s : State) : State :=
  (s.modZone z fun r => { ZoneRecord.free with eye := r.eye, state := .occupied, record := some n }).modPallet n
    fun p => { p with location := some z }

/-- DIV2's own step on its record: an orphaned LABELLED one is rejected, one whose order holds no lane starts the lane
wait (R93 to R95). -/
def routeDiv2 (s : State) : State :=
  match s.occupant .div2 with
  | none => s
  | some n =>
    match s.pallet n with
    | none => s
    | some p =>
      if p.state = .labelled then
        if p.orphaned then
          (s.modZnc fun u => { u with laneWait := .stopped }).reject n (some .orderEnded)
        else
          match (p.assignment.map (·.order)).bind s.order with
          | some o =>
            if o.lane.isNone then s.modZnc fun u => { u with laneWait := .running s.sdu.inForce.laneWait } else s
          | none => s
      else s

/-- The arrival handed to the block that works in the destination. -/
def handOn (dst : Zone) (n : TrackNo) (s : State) : State :=
  match dst with
  | .scan => s.arm n
  | .div1 => s.decideAtDiv1 n
  | .wrap w => s.beginWrap w n
  | .out w => s.dischargeEnded w
  | .label => s.arriveLabel n
  | .div2 => s.routeDiv2
  | .gate g => s.testRelease g
  | _ => s

/-- A move ends in arrival. -/
def arrive (src dst : Zone) (n : TrackNo) (s : State) : State := ((s.vacate src).occupy dst n).handOn dst n

/-- A move did not take place: what its source's blocks are told (R82, R93, R96, R101). -/
def tellUndone (src dst : Zone) (s : State) : State :=
  match src, dst with
  | .feed, .wrap w => s.loadingUndone w
  | .wrap w, .out _ => s.dischargeUndone w
  | .div2, .sort => (s.modZnc fun u => { u with route := none }).routeDiv2
  | .div2, _ => s.routeDiv2
  | .sort, .gate g => s.modZnc fun u => { u with route := some g }
  | _, _ => s

/-! ### Eyes (R80) -/

/-- Whether a zone is LEAVING in a gate departure. -/
def departing (s : State) (n : Lane) : Bool :=
  (s.zone (.gate n)).state == .leaving && (s.zone (.gate n)).record.isNone

/-- The gate departure is over: gate closed. -/
def closeGate (n : Lane) (s : State) : State := s.modZnc fun u => { u with gates := u.gates.set n false }

def eyeIsMade (z : Zone) (s : State) : State :=
  let r := s.zone z
  if r.eye then s
  else
    let s := s.modZone z fun r => { r with eye := true }
    match r.state, r.record, r.partner with
    | .free, _, _ => s.eyeInFree z
    | .reserved, some n, some src => if r.interrupted then s else s.arrive src z n
    | _, _, _ => s

def eyeIsCleared (z : Zone) (s : State) : State :=
  let r := s.zone z
  if r.eye then
    let s := s.modZone z fun r => { r with eye := false }
    match r.state, z with
    | .awaitingTag, _ => (s.freeZone z).modTrt fun t => { t with tagTimer := .stopped }
    | .leaving, .gate n =>
      if r.record.isNone && !r.interrupted then (s.freeZone z).closeGate n else s
    | _, _ => s
  else s

/-! ### Timers (R84, R94, R97) -/

/-- Both zones of a pair put into a state that holds the record, with drives off and no timer. -/
def holdPair (st : ZoneState) (src dst : Zone) (s : State) : State :=
  let hold (r : ZoneRecord) : ZoneRecord := { r with
    state := st, interrupted := false, moveTimer := .stopped, drive := false }
  (s.modZone src hold).modZone dst hold

/-- The move timer of the move out of a zone expires: the pair is JAMMED. -/
def moveTimeout (src : Zone) (s : State) : State :=
  let r := s.zone src
  match r.state, r.partner with
  | .leaving, some dst =>
    if r.moveTimer.isRunning then
      (s.holdPair .jammed src dst).zoneNotice .jammed src (some dst) r.record none
    else s
  | _, _ => s

/-- The move timer of a gate departure expires: the gate is UNTRACKED and closed. -/
def departureTimeout (n : Lane) (s : State) : State :=
  if s.departing n && (s.zone (.gate n)).moveTimer.isRunning then
    ((s.untrackZone (.gate n)).closeGate n).zoneNotice .untracked (.gate n) none none (some .departureTimeout)
  else s

/-- The lane wait timer expires: the record at DIV2 is rejected with NO_LANE. -/
def laneWaitTimeout (s : State) : State :=
  if s.znc.laneWait.isRunning then
    let s := s.modZnc fun u => { u with laneWait := .stopped }
    match s.occupant .div2 with
    | some n => if s.palletState n = some .labelled then s.reject n (some .noLane) else s
    | none => s
  else s

/-- LNU tells ZNC of a binding: the lane wait of a record of that order stops (R94). -/
def laneBound (order : Nat) (s : State) : State :=
  match (s.occupant .div2).bind s.pallet with
  | some p =>
    if p.assignment.map (·.order) = some order then s.modZnc fun u => { u with laneWait := .stopped } else s
  | none => s

/-! ### The emergency stop (R100, R101) -/

/-- The chain opens: every move and gate departure in flight is interrupted, all drives go off, the gates close. -/
def interruptMoves (s : State) : State :=
  let s := Zone.all.foldl (fun s z => s.modZone z fun r =>
    let r := { r with drive := false }
    if r.state = .leaving ∨ r.state = .reserved then { r with interrupted := true, moveTimer := .stopped } else r) s
  s.modZnc fun u => { u with gates := Vector.replicate 6 false }

/-- One interrupted move or departure out of a zone resolved by the eyes. -/
def resolveMove (src : Zone) (s : State) : State :=
  let r := s.zone src
  if r.state = .leaving ∧ r.interrupted = true then
    match r.partner, r.record with
    | some dst, some n =>
      match r.eye, (s.zone dst).eye with
      | true, false => ((s.occupy src n).freeZone dst).tellUndone src dst
      | false, true => s.arrive src dst n
      | _, _ => (s.holdPair .uncertain src dst).zoneNotice .uncertain src (some dst) (some n) none
    | _, _ =>
      if r.eye then (s.untrackZone src).zoneNotice .untracked src none none (some .restart) else s.freeZone src
  else s

/-- RESTART LINE resolves every interrupted move, in zone code order of the sources (log 26). -/
def resolveMoves (s : State) : State := Zone.all.foldl (fun s z => s.resolveMove z) s

/-! ### The repair of zones (R102, R103) -/

def clearZone (z : Zone) (s : State) : State :=
  let s := s.freeZone z
  match z with
  | .wrap w => s.emptied w
  | _ => s

/-- CONFIRM ZONE taken for the zone of a JAMMED or UNCERTAIN pair, its partner and its record. -/
def confirmZone (z other : Zone) (n : TrackNo) (s : State) : State :=
  let undone := (s.pallet n).bind (·.location) == some z
  let s := s.occupy z n
  let s := if (s.zone other).eye then
      (s.untrackZone other).zoneNotice .untracked other none none (some .confirm)
    else s.freeZone other
  if undone then s.tellUndone z other else s.handOn z n

/-! ### The end of an order (R95) -/

/-- ZNC acts on the record OCCUPIED in DIV2 when the end orphaned it. -/
def div2OrderEnded (orphans : List TrackNo) (s : State) : State :=
  match s.occupant .div2 with
  | some n => if n ∈ orphans then s.routeDiv2 else s
  | none => s

end State

end Sys2Proof.Machine
end

