-- ==== Sys2Proof/Machine/Ends.lean ====
section
/-! DEFINITION. The two ends of an order that touch every block, cancel (R36) and cut-off (R38, R155), and the completion
of a stored-data write (R174). -/

namespace Sys2Proof.Machine

namespace State

/-! ### The end of an order -/

/-- OBK tells ZNC and LBU of an order's end, with the records it orphaned; LNU's stranded pallet is held by its orphaned
flag alone (R37, R95, R143, R157). -/
def tellOrderEnded (orphans : List TrackNo) (s : State) : State :=
  (s.div2OrderEnded orphans).labelOrderEnded orphans

/-- CANCEL ORDER taken (R36). -/
def cancelOrder (number : Nat) (s : State) : State :=
  (s.cancelInBook number).tellOrderEnded (s.assignedTo number)

/-- The cut-off of a lane: remaining is 0 (R155, R38). -/
def cutOff (n : Lane) (s : State) : State :=
  let s := s.endLane n .cutOff
  match (s.lane n).order with
  | some number => (s.cutOffInBook number).tellOrderEnded (s.assignedTo number)
  | none => s

/-- The minute timer of a BOUND lane expires (R151). -/
def minuteExpired (n : Lane) (s : State) : State :=
  let l := s.lane n
  match l.state, l.minute with
  | .bound, .running _ =>
    let s := s.modLane n fun l => { l with remaining := l.remaining - 1 }
    if (s.lane n).remaining = 0 then s.cutOff n
    else (s.modLane n fun l => { l with minute := .running Config.minuteSeconds }).warnLane n
  | _, _ => s

/-! ### The completion of a write (R174, R191) -/

/-- The entry after a host job's write ended DONE; a site write writes its mark copy now too (R175; log 52). -/
def storeWritten (w : StoreWrite) (s : State) : State :=
  match w with
  | .profile i p => s.modSdu fun d => { d with profiles := d.profiles.set i ⟨some p.product, .valid p true⟩ }
  | .clearProfile i => s.modSdu fun d => { d with profiles := d.profiles.set i ⟨none, .empty true⟩ }
  | .recipe i r => s.modSdu fun d => { d with recipes := d.recipes.set i (.valid r true) }
  | .clearRecipe i => s.modSdu fun d => { d with recipes := d.recipes.set i (.empty true) }
  | .timing v => s.modSdu fun d => { d with timing := .valid v true, inForce := v }
  | .setSite p => s.modSdu fun d => { d with site := .valid ⟨some p, 1⟩ true, copies := writeCopy 1 .new d.copies }
  | .recoverSerials p m => s.modSdu fun d => { d with
      site := .valid ⟨some p, m⟩ true, copies := writeCopy m .new d.copies }

/-- The entry after a host job's write ended FAILED: DAMAGED; a profile slot being defined keeps the new key (R167). -/
def storeFailed (w : StoreWrite) (s : State) : State :=
  match w with
  | .profile i p => s.modSdu fun d => { d with profiles := d.profiles.set i ⟨some p.product, .damaged⟩ }
  | .setSite _ | .recoverSerials _ _ =>
    match w.site with
    | some c => (s.partWrittenCopy c.mark).modSdu (Store.mark .site)
    | none => s
  | _ => s.modSdu (Store.mark w.entry)

/-- The result of a host job's write handed to CKU or LBU (R74, R135, R174). -/
def handResult (w : StoreWrite) (done : Bool) (s : State) : State :=
  match w, done with
  | .profile _ p, true => s.withdrawProfile p.product
  | .setSite _, true => s.siteSet 1
  | .recoverSerials _ m, true => s.siteSet m
  | .setSite _, false => s.modLbu fun l => { l with block := some .siteDamaged }
  | .recoverSerials _ _, false => s.modLbu fun l => { l with block := some .siteDamaged }
  | _, _ => s

/-- A host job's write ended: the entry, the COMPLETION with the slot freed, the result handed on. -/
def hostEnded (job : HostJob) (done : Bool) (s : State) : State :=
  let s := if done then s.storeWritten job.write else s.storeFailed job.write
  let s := (s.modSdu fun d => { d with host := .empty }).place (.completion job.number job.kind done s.now)
  s.handResult job.write done

/-- A reservation's write ended: FAILED whatever the store reports when the site entry has been marked DAMAGED meanwhile
(R172); the mark copy, written with the entry at the write's end (R175; log 52), the site entry, the slot, the result
handed to LBU (R134). -/
def reservationEnded (c : SiteData) (done : Bool) (s : State) : State :=
  let good := done && s.sdu.site.state == .valid
  let s := if done then s.modSdu fun d => { d with copies := writeCopy c.mark .new d.copies }
    else s.partWrittenCopy c.mark
  if good then
    (s.modSdu fun d => { d with site := .valid c true, reservation := .empty }).reservationDone
  else
    (s.modSdu fun d => { d with site := .damaged, reservation := .empty }).reservationFailed

/-- The write in flight ended, DONE or FAILED; the next write starts (R174, R171). -/
def endWrite (done : Bool) (s : State) : State :=
  let clear (s : State) : State := s.modSdu fun d => { d with marker := none, writeTimer := false }
  match s.sdu.reservationInFlight, s.sdu.hostInFlight with
  | some c, _ => ((clear s).reservationEnded c done).startWrite
  | none, some job => ((clear s).hostEnded job done).startWrite
  | none, none => s

/-- The store reports the end of the write it names: discarded when that is not the one in flight, as after its timer has
expired (R174; log 42). -/
def writeReported (report : StoreReport) (s : State) : State :=
  if report.write = s.sdu.started then s.endWrite report.done else s

/-- The write timer expires, which counts as FAILED. -/
def writeTimeout (s : State) : State := if s.sdu.writeTimer then s.endWrite false else s

end State

end Sys2Proof.Machine
end

