-- ==== Sys2Proof/Machine/Transmit.lean ====
section
/-! DEFINITION. The transmitter of the Link Unit (R196, R197) and the frame of a command's meaning: when a field arrival or
a timer expiry is taken, and that the transmitter chooses at its end. -/

namespace Sys2Proof.Machine

namespace State

/-- A reply or completion is being sent. -/
def sendingAnswer (s : State) : Bool :=
  match s.lku.sending with
  | some (.answer _) => true
  | _ => false

/-- A reset is pending and the last of the frames that go before it has been sent whole (R197). -/
def drained (s : State) : Bool :=
  s.lsv.resetPending && s.lku.replies.isEmpty && s.owedCount == 0 && !s.sendingAnswer

end State

/-- Set the sent mark of the oldest unsent query. -/
def markSent : List Query → List Query
  | [] => []
  | q :: rest => if q.sent then q :: markSent rest else { q with sent := true } :: rest

/-- The transmitter's choice when it is idle: the oldest reply or completion, else the oldest unsent query, else the head
of the notice queue (R196). -/
def Link.choose (l : Link) : Link :=
  match l.replies with
  | a :: rest => { l with replies := rest, sending := some (.answer a) }
  | [] =>
    match l.queries.find? (fun q => !q.sent) with
    | some q => { l with queries := markSent l.queries, sending := some (.query q) }
    | none =>
      match l.notices with
      | n :: rest => { l with notices := rest, sending := some (.notice n) }
      | [] => l

namespace State

/-- An idle transmitter chooses (R196); it begins no frame once a pending reset has only to be handed on (R197; log 5,
6). -/
def pump (s : State) : State :=
  if s.lku.sending.isSome || s.drained || s.inReset then s else s.modLku Link.choose

/-- A field arrival: not taken in reset nor during POWER_UP (R208, R210). -/
def arrival (f : State → State) (s : State) : State := if s.inReset || !s.taking then s else (f s).pump

/-- An event taken in every line state, but not in reset (R208). -/
def event (f : State → State) (s : State) : State := if s.inReset then s else (f s).pump

end State

end Sys2Proof.Machine
end

