-- ==== Sys2Proof/Machine/Supervisor.lean ====
section
/-! DEFINITION. The Line Supervisor (file 10): the line state with the key switch, the chain and RESTART LINE, the line
clock and the seconds of every timer, the resets, start-up. -/

namespace Sys2Proof.Machine

namespace State

/-! ### The line state (R201) -/

/-- A change of line state with its LINE notice. -/
def enterLine (entered : LineState) (cause : LineCause) (s : State) : State :=
  let left := s.lsv.line
  let s := s.modLsv fun v => { v with line := entered }
  s.notify (.line left entered cause s.lsv.key s.lsv.chainOpen)

/-- Each wrapper paused with cause HALT or ESTOP resumes, A before B (R117, R205; the order by log 44). -/
def resumeWraps (s : State) : State := (s.resumeWrap .a).resumeWrap .b

/-- The blocks take the change to RUNNING after their own resumption: wrappers, moves, release tests, infeed-ready (R202,
R205). -/
def takeRunning (s : State) : State := s.resumeWraps.settle.testReleases.settle

/-! ### The key switch (R200, R202) -/

/-- A new key position written; it halts a RUNNING line, or resumes a HALTED one. -/
def writeKey (key : KeyPosition) (s : State) : State :=
  let u := s.modLsv fun v => { v with key := key }
  match s.lsv.line with
  | .running => if key = .run then u else (u.enterLine .halted .keyLeftRun).settle
  | .halted => if key = .run then (u.enterLine .running .keyReturned).takeRunning else u
  | .powerUp | .stopped => u

/-- A change of the key switch reading; a reading equal to the key position is no change. -/
def changeKey (key : KeyPosition) (s : State) : State := if key = s.lsv.key then s else s.writeKey key

/-! ### The chain (R203) -/

/-- The opening handed to the blocks (R100, R118, R144, R76). -/
def stopBlocks (s : State) : State := (((s.interruptMoves.stopWrap .a).stopWrap .b).suspendCycle).abandon

def openChain (s : State) : State :=
  if s.lsv.chainOpen then s
  else
    let s := s.modLsv fun v => { v with chainOpen := true }
    let s := if s.lsv.line = .running ∨ s.lsv.line = .halted then s.enterLine .stopped .estopOpened else s
    s.stopBlocks.testInfeed

def closeChain (s : State) : State := s.modLsv fun v => { v with chainOpen := false }

/-! ### RESTART LINE (R204, R205) -/

def mayRestart (s : State) : Bool :=
  s.lsv.line == .stopped && s.lsv.key == .run && !s.lsv.chainOpen

def restartLine (s : State) : State :=
  ((s.resolveMoves.enterLine .running .restart).rearm.unsuspend).takeRunning

/-! ### The second (R206, log 7) -/

def tickWrapper (r : WrapperRecord) : WrapperRecord := { r with channel := { r.channel with pass := r.channel.pass.tick } }

/-- Every zone's move timer loses its second. -/
def tickZones (s : State) : State :=
  Zone.all.foldl (fun s z => s.modZone z fun r => { r with moveTimer := r.moveTimer.tick }) s

def tickLanes (s : State) : State :=
  Lane.all.foldl (fun s n => s.modLane n fun l => { l with minute := l.minute.tick }) s

/-- One second of every timer kept in seconds; no timer follows the line clock (R206). -/
def tickTimers (s : State) : State :=
  let s := s.modTrt fun t => { t with tagTimer := t.tagTimer.tick }
  let s := s.modCku fun c => { c with
    weightTimer := c.weightTimer.tick, scanTimer := c.scanTimer.tick, holdTimer := c.holdTimer.tick }
  let s := s.modZnc fun u => { u with laneWait := u.laneWait.tick }
  let s := { s with wsq := ⟨tickWrapper s.wsq.fst, tickWrapper s.wsq.snd⟩ }
  let s := s.modLbu fun l => { l with
    applyTimers := ⟨l.applyTimers.fst.tick, l.applyTimers.snd.tick⟩, readTimer := l.readTimer.tick }
  s.tickZones.tickLanes

/-- A second of the line clock: 4,294,967,295 steps to 0, and the flag is not set by that. -/
def tick (s : State) : State := (s.modLsv fun v => { v with clock := v.clock + 1 }).tickTimers

/-! ### Resets and start-up (R208, R210, R178, R128) -/

/-- All state outside the stored entries lost, every block at its reset values (R208); the write in flight has been dealt
with before. -/
def resetTo (kind : ResetKind) (supply input : Bool) (s : State) : State :=
  State.resetValues kind supply input s.sdu s.pins s.znc.div1Out s.znc.div2Out s.freeCount s.pending

/-- POWER_UP begins: the store verified with a STORE notice DAMAGED for every DAMAGED entry, and the status query sent to
each station (R178, R210, R128; log 11, 17). -/
def beginPowerUp (s : State) : State :=
  let s := s.modSdu Store.verify
  let s := s.sdu.damagedEntries.foldl (fun s id => s.storeNotice .damaged id none) s
  ((s.send .a .statusQuery 0 none).send .b .statusQuery 0 none).pump

/-- Power-on: the supply comes into its range; while the reset input is asserted the part stays in reset (R208, log 31). -/
def powerOn (s : State) : State :=
  let s := s.cutOffWrite.resetTo .powerOn true s.lsv.resetInput
  if s.lsv.resetInput then s else s.beginPowerUp

/-- The supply leaves its range. -/
def powerLoss (s : State) : State := s.cutOffWrite.resetTo s.lsv.resetKind false s.lsv.resetInput

/-- The reset input is asserted. -/
def assertReset (s : State) : State :=
  if s.lsv.resetInput then s
  else s.cutOffWrite.resetTo (if s.lsv.supply then .resetInput else s.lsv.resetKind) s.lsv.supply true

/-- The reset input is released: POWER_UP begins when the supply is in its range. -/
def releaseReset (s : State) : State :=
  if s.lsv.resetInput then
    let s := s.modLsv fun v => { v with resetInput := false }
    if s.lsv.supply then s.beginPowerUp else s
  else s

/-- LKU hands a pending reset to LSV when the last of its frames has been sent whole (R197, R209). -/
def requestedReset (s : State) : State :=
  if s.drained ∧ s.lku.sending = none ∧ s.inReset = false then
    (s.resetTo .resetRequest s.lsv.supply s.lsv.resetInput).beginPowerUp
  else s

/-! ### The end of start-up (R210, R211) -/

/-- A wrapper set from what its start-up query found (R128). -/
def foundWrapper (r : WrapperRecord) : WrapperRecord :=
  let r' := { r with found := none }
  match r.found with
  | some (.report true false) => { r' with state := .idle, load := .none }
  | some (.report true true) => { r' with state := .stopped, load := .untracked }
  | some (.report false l) =>
    { r' with state := .faulted, faultCause := some .unitFault, load := if l then .untracked else .none }
  | some .silent => { r' with state := .faulted, faultCause := some .noResponse, load := .none }
  | none => r

/-- Every zone set from its eye, and a wrapper zone also from its wrapper's load (R105). -/
def startZones (s : State) : State :=
  Zone.all.foldl (fun s z =>
    let eye := s.pins.eyes[z.idx]
    let loaded := match z with
      | .wrap w => (s.wrapper w).load == .untracked
      | _ => false
    s.putZone z { ZoneRecord.free with
      eye := eye, state := if eye || loaded then .untracked else .free }) s

/-- Every truck-present input written (R163). -/
def startLanes (s : State) : State :=
  Lane.all.foldl (fun s n => s.modLane n fun l => { l with truck := s.pins.trucks[n] }) s

/-- The START notice (R211); prefix held is clear for a DAMAGED site entry (log 47). -/
def startEvent (s : State) : Event :=
  .start s.lsv.resetKind .stopped s.lsv.key s.lsv.chainOpen s.sdu.damagedEntries.length s.sdu.site.state
    (match s.sdu.site with | .valid c _ => c.sitePrefix.isSome | _ => false) ⟨s.wsq.fst.state, s.wsq.snd.state⟩

/-- Both operations of start-up have ended. -/
def startUpOver (s : State) : Bool :=
  s.lsv.line == .powerUp && !s.inReset && s.wsq.fst.found.isSome && s.wsq.snd.found.isSome

/-- The end of start-up: every block sets its state, then the START notice is made and the line is STOPPED (R210, R211;
log 29). -/
def endStartUp (s : State) : State :=
  let s := { s with wsq := ⟨foundWrapper s.wsq.fst, foundWrapper s.wsq.snd⟩ }
  let s := s.setRange.startZones.startLanes
  let s := s.modLsv fun v => { v with
    key := keyReading s.pins.keyRun s.pins.keySetup s.pins.keyService, chainOpen := s.pins.chainOpen,
    line := .stopped }
  s.notify s.startEvent

end State

end Sys2Proof.Machine
end

