-- ==== Sys2Proof/Machine/TrackTable.lean ====
section
/-! DEFINITION. The Track Table (file 01): creation at IN, return matching, RETURN PALLET and REMOVE PALLET. -/

namespace Sys2Proof.Machine

/-- A record as created at IN (R13). -/
def Pallet.fresh (tag : Option Tag) (time : Stamp) : Pallet :=
  { tag := tag, state := .entering, location := some .infeed, attempts := 0, checkSeq := none, gross := none,
    profile := none, reasons := [], assignment := none, orphaned := false, plan := none, recipeMissing := false,
    wrapper := none, passesDone := 0, serial := none, faces := ⟨⟨.notDone, 0⟩, ⟨.notDone, 0⟩⟩, created := time,
    verdictTime := none, labelledTime := none }

/-- A record re-used by return matching: attempts, serial and created time kept (R16). -/
def Pallet.reused (tag : Tag) (p : Pallet) : Pallet :=
  { Pallet.fresh (some tag) p.created with attempts := p.attempts, serial := p.serial }

/-- The places of the table of R20 from which a record may be removed. -/
inductive RemovalPlace where
  | spurExit
  | offLine
  | wrapper (w : Wrapper)
  | pair (z partner : Zone)
  | gate (n : Lane)
deriving DecidableEq, Repr

namespace State

/-! ### At IN (R10, R12, R16) -/

/-- The lowest track number that no record holds (R1). -/
def lowestFree (s : State) : Option TrackNo := TrackNo.all.find? fun n => (s.pallet n).isNone

/-- The oldest OFF_LINE record with the same product code and batch code (R16). -/
def matchOffLine (s : State) (t : Tag) : Option TrackNo :=
  s.trt.offLine.find? fun n => match (s.pallet n).bind (·.tag) with
    | some q => q.product == t.product && q.batch == t.batch
    | none => false

/-- A record now stands for the pallet at IN: IN OCCUPIED, its tag handed to CKU. -/
def stand (n : TrackNo) (s : State) : State := (s.occupy .infeed n).wantProfile n

/-- A new record, or with a full track the pallet is left untracked (R10, R12). -/
def create (tag : Option Tag) (s : State) : State :=
  match s.lowestFree with
  | some n => (s.putPallet n (some (Pallet.fresh tag s.now))).stand n
  | none => (s.untrackZone .infeed).zoneNotice .untracked .infeed none none (some .trackFull)

/-- Re-use of an OFF_LINE record (R16, R71). -/
def reuse (n : TrackNo) (t : Tag) (s : State) : State :=
  (((s.modPallet n (Pallet.reused t)).modTrt fun r => { r with offLine := r.offLine.filter (· != n) }).modCku
    fun c => { c with holdEnded := c.holdEnded.filter (· != n) }).stand n

/-- The tag arrival: the tag timer stops, a match is re-used, else a record is created; a pallet without a tag cannot
match (R10, R3). -/
def identify (tag : Option Tag) (s : State) : State :=
  let s := s.modTrt fun t => { t with tagTimer := .stopped }
  match tag with
  | some t =>
    match s.matchOffLine t with
    | some n => s.reuse n t
    | none => s.create (some t)
  | none => s.create none

/-- A tag read: discarded unless IN is AWAITING_TAG (R10, R11). -/
def takeTag (read : Option TagFields) (s : State) : State :=
  if (s.zone .infeed).state = .awaitingTag then s.identify (read.bind TagFields.tag) else s

/-- The tag timer expires (R10). -/
def tagTimeout (s : State) : State :=
  if s.trt.tagTimer.isRunning && (s.zone .infeed).state == .awaitingTag then s.identify none else s

/-! ### RETURN PALLET (R17, R18) -/

/-- The checks of R17, in the order written. -/
def returnCheck (s : State) (n : TrackNo) : Option Status :=
  match s.pallet n with
  | none => some .notFound
  | some p =>
    if p.state = .rejected ∧ p.location = some (.sp 3) ∧ p.tag.isSome = true ∧ p.attempts < Config.attemptLimit then
      if (s.zone (.sp 3)).eye then some .palletPresent else none
    else some .wrongState

def returnPallet (n : TrackNo) (s : State) : State :=
  (((s.modPallet n fun p => { p with location := none }).modTrt fun t =>
    { t with offLine := t.offLine ++ [n] }).freeZone (.sp 3)).enter n .offLine .returned

/-! ### REMOVE PALLET (R20, R21) -/

/-- The place a record stands in, if it is one of the table's. -/
def removalPlace (s : State) (p : Pallet) : Option RemovalPlace :=
  if p.state = .offLine then some .offLine
  else
    match p.location with
    | none => none
    | some z =>
      let r := s.zone z
      match r.state, r.partner with
      | .jammed, some q => some (.pair z q)
      | .uncertain, some q => some (.pair z q)
      | _, _ =>
        match z with
        | .sp 3 => some .spurExit
        | .wrap w =>
          if p.state = .wrapStopped ∧ ((s.wrapper w).state = .faulted ∨ (s.wrapper w).state = .offline) then
            some (.wrapper w)
          else none
        | .gate n => if p.orphaned then some (.gate n) else none
        | _ => none

/-- The eye condition of a place (R20). -/
def eyesClear (s : State) : RemovalPlace → Bool
  | .spurExit => !(s.zone (.sp 3)).eye
  | .offLine => true
  | .wrapper w => !(s.zone (.wrap w)).eye
  | .pair z q => !(s.zone z).eye && !(s.zone q).eye
  | .gate n => !(s.zone (.gate n)).eye

/-- The checks of R20, in order: the place when the request may be taken. -/
def removeCheck (s : State) (n : TrackNo) : Except Status RemovalPlace :=
  match s.pallet n with
  | none => .error .notFound
  | some p =>
    match s.removalPlace p with
    | none => .error .wrongState
    | some place => if s.eyesClear place then .ok place else .error .palletPresent

/-- WSQ told of a record that left a move into or out of a wrapper; SORT's route given up with a record on its way into it
(R21, log 24). -/
def pairRemoved (z q : Zone) (s : State) : State :=
  match z, q with
  | .feed, .wrap w => s.emptied w
  | .wrap w, _ => s.emptied w
  | .div2, .sort => s.modZnc fun u => { u with route := none }
  | _, _ => s

/-- The zones set FREE, and what WSQ is told (R20, R21). -/
def clearPlace (place : RemovalPlace) (s : State) : State :=
  match place with
  | .spurExit => s.freeZone (.sp 3)
  | .offLine => s
  | .wrapper w => (s.emptied w).freeZone (.wrap w)
  | .pair z q => ((s.pairRemoved z q).freeZone z).freeZone q
  | .gate n => s.freeZone (.gate n)

/-- The record retired with its PALLET notice REMOVED, or VOIDED when it held a serial (R7, R19). -/
def retireRemoved (n : TrackNo) (s : State) : State :=
  match s.pallet n with
  | some p => (s.notify (palletEvent (if p.serial.isSome then .voided else .removed) n p none)).retire n
  | none => s

/-- REMOVE PALLET taken: the steps of R21 in their order. -/
def removePallet (n : TrackNo) (place : RemovalPlace) (s : State) : State :=
  let s := s.releaseAssignment n
  let s := s.modTrt fun t => { t with offLine := t.offLine.filter (· != n) }
  (s.clearPlace place).retireRemoved n

end State

end Sys2Proof.Machine
end

