-- ==== Sys2Proof/Machine/Operate.lean ====
section
/-! DEFINITION. The OPERATE requests: orders, lanes, the hold, pallets, zones, wrappers, the labeller, the clock. -/

namespace Sys2Proof.Machine

/-! ### Orders (R29, R30, R36, R45, R46) -/

/-- Put an order line into its place by line number. -/
def OrderLine.insert (l : OrderLine) : List OrderLine → List OrderLine
  | [] => [l]
  | q :: rest => if l.number < q.number then l :: q :: rest else q :: OrderLine.insert l rest

/-- An order as created by NEW ORDER (section 2.2). -/
def NewOrder.record (r : NewOrder) (seq : Word32) : Order :=
  { number := r.number, destination := r.destination, priority := r.priority, bonded := r.bonded, authority := none,
    creationSeq := seq, state := .isOpen, lane := none,
    lines := r.lines.foldl (fun ls l => OrderLine.insert ⟨l.1, l.2.1, l.2.2, 0, 0⟩ ls) [],
    dispatch := [], manifest := 0 }

def actNewOrder (r : NewOrder) (s : State) : State × Response :=
  if Config.bookCapacity ≤ s.obk.orders.length then refuse .full s
  else if (s.order r.number).isSome then refuse .alreadyExists s
  else
    let seq := s.obk.creationSeq + 1
    okay (u32 seq.toNat) (s.modObk fun b => { b with orders := b.orders ++ [r.record seq], creationSeq := seq })

def reqNewOrder : Request := ⟨0x20, .operate, fun _ body => withArgs (argNewOrder body) actNewOrder⟩

def actCancelOrder (number : Nat) (s : State) : State × Response :=
  match s.order number with
  | none => refuse .notFound s
  | some o => if o.state.live then okay [] (s.cancelOrder number).settle else refuse .wrongState s

def reqCancelOrder : Request := ⟨0x21, .operate, fun _ body => withArgs (argOrder body) actCancelOrder⟩

def actCloseOrder (number : Nat) (s : State) : State × Response :=
  match s.order number with
  | none => refuse .notFound s
  | some o =>
    if o.state.live || o.lane.isSome then refuse .wrongState s
    else okay [] (s.modObk fun b => { b with orders := b.orders.filter fun q => q.number != number })

def reqCloseOrder : Request := ⟨0x22, .operate, fun _ body => withArgs (argOrder body) actCloseOrder⟩

def actAuthorise (a : Nat × Text) (s : State) : State × Response :=
  match s.order a.1 with
  | none => refuse .notFound s
  | some o =>
    if !o.bonded || !o.state.live then refuse .wrongState s
    else if !o.dispatch.isEmpty then refuse .fixed s
    else
      let s := s.modOrder a.1 fun o => { o with authority := some a.2 }
      okay [] (match o.lane with
        | some n => (s.testRelease n).settle
        | none => s)

def reqAuthoriseRelease : Request := ⟨0x23, .operate, fun _ body => withArgs (argAuthority body) actAuthorise⟩

/-! ### Lanes (R149, R150, R153, R154) -/

def actBindLane (a : Lane × Nat × Nat) (s : State) : State × Response :=
  match s.order a.2.1 with
  | none => refuse .notFound s
  | some o =>
    if (s.lane a.1).state ≠ .closed then refuse .wrongState s
    else if o.state ≠ .isOpen then refuse .wrongState s
    else okay [] ((s.bindLane a.1 a.2.1 a.2.2).laneBound a.2.1).settle

def reqBindLane : Request := ⟨0x24, .operate, fun _ body => withArgs (argBind body) actBindLane⟩

def actUnbindLane (n : Lane) (s : State) : State × Response :=
  if s.mayUnbind n then okay [] (s.unbindLane n) else refuse .wrongState s

def reqUnbindLane : Request := ⟨0x25, .operate, fun _ body => withArgs (argLane body) actUnbindLane⟩

def actPauseLane (n : Lane) (s : State) : State × Response :=
  if (s.lane n).state = .bound then okay [] (s.pauseLane n) else refuse .wrongState s

def reqPauseLane : Request := ⟨0x26, .operate, fun _ body => withArgs (argLane body) actPauseLane⟩

def actResumeLane (n : Lane) (s : State) : State × Response :=
  if (s.lane n).state = .paused then okay [] (s.resumeLane n).settle else refuse .wrongState s

def reqResumeLane : Request := ⟨0x27, .operate, fun _ body => withArgs (argLane body) actResumeLane⟩

def actExtend (a : Lane × Nat) (s : State) : State × Response :=
  if (s.lane a.1).state = .bound ∨ (s.lane a.1).state = .paused then
    let s := s.extendLane a.1 a.2
    okay (u8 (s.lane a.1).remaining) s
  else refuse .wrongState s

def reqExtendCutOff : Request := ⟨0x28, .operate, fun _ body => withArgs (argExtend body) actExtend⟩

/-! ### The check (R67, R75) -/

def actDecideHold (a : TrackNo × Decision) (s : State) : State × Response :=
  match s.pallet a.1 with
  | none => refuse .notFound s
  | some p =>
    if p.state = .held then
      okay [] (match a.2 with
        | .override => (s.overrideHold a.1).settle
        | .divert => (s.divertHold a.1).settle)
    else if a.1 ∈ s.cku.holdEnded then refuse .tooLate s
    else refuse .wrongState s

def reqDecideHold : Request := ⟨0x29, .operate, fun _ body => withArgs (argDecide body) actDecideHold⟩

def actInhibitHeads (h : Heads) (s : State) : State × Response :=
  okay [] (s.modCku fun c => { c with headInhibit := h })

def reqInhibitHeads : Request := ⟨0x37, .operate, fun _ body => withArgs (argHeads body) actInhibitHeads⟩

/-! ### Store jobs (R170, R167, R73) -/

/-- A store request taken: ACCEPTED with its job number (R188, R190). -/
def acceptJob (kind : Byte) (write : StoreWrite) (s : State) : State × Response :=
  let s := s.placeJob kind write
  (s, .now .accepted (u8 s.lku.job))

/-- SDU's checks of a profile definition (R167). -/
def defineProfile (kind : Byte) (p : Profile) (s : State) : State × Response :=
  if s.sdu.host ≠ .empty then refuse .busy s
  else
    let named := match recipeEntry p.recipe with
      | some i => s.sdu.recipes[i].state == .valid
      | none => true
    if !named then refuse .notFound s
    else match s.sdu.slotFor p.product with
      | none => refuse .full s
      | some i => acceptJob kind (.profile i p) s

/-- CKU's TOO_LATE, then SDU's checks (R73). -/
def actSupplyProfile (p : Profile) (s : State) : State × Response :=
  if s.profileAsked p.product then defineProfile 0x2A p s else refuse .tooLate s

def reqSupplyProfile : Request := ⟨0x2A, .operate, fun _ body => withArgs (argSupply body) actSupplyProfile⟩

/-! ### Pallets and zones (R17, R20, R102, R103) -/

/-- REMOVE PALLET; the zones it frees let moves start and the arbiters grant (R20, R21; the grants by log 43). -/
def actRemovePallet (n : TrackNo) (s : State) : State × Response :=
  match s.removeCheck n with
  | .ok place => okay [] (s.removePallet n place).settle
  | .error st => refuse st s

def reqRemovePallet : Request := ⟨0x2B, .operate, fun _ body => withArgs (argTrack body) actRemovePallet⟩

def actReturnPallet (n : TrackNo) (s : State) : State × Response :=
  match s.returnCheck n with
  | none => okay [] (s.returnPallet n).settle
  | some st => refuse st s

def reqReturnPallet : Request := ⟨0x2C, .operate, fun _ body => withArgs (argTrack body) actReturnPallet⟩

def actClearZone (z : Zone) (s : State) : State × Response :=
  if (s.zone z).state ≠ .untracked then refuse .wrongState s
  else if (s.zone z).eye then refuse .palletPresent s
  else okay [] (s.clearZone z).settle

def reqClearZone : Request := ⟨0x2D, .operate, fun _ body => withArgs (argZone body) actClearZone⟩

def actConfirmZone (a : Zone × TrackNo) (s : State) : State × Response :=
  let r := s.zone a.1
  if (s.pallet a.2).isNone then refuse .notFound s
  else if r.state ≠ .jammed ∧ r.state ≠ .uncertain then refuse .wrongState s
  else if r.record ≠ some a.2 then refuse .wrongState s
  else if r.eye = false then refuse .wrongState s
  else match r.partner with
    | some other => okay [] (s.confirmZone a.1 other a.2).settle
    | none => refuse .wrongState s

def reqConfirmZone : Request := ⟨0x2E, .operate, fun _ body => withArgs (argConfirm body) actConfirmZone⟩

/-! ### The line (R204, R207) -/

def actRestartLine (_ : Unit) (s : State) : State × Response :=
  if s.mayRestart then okay [] s.restartLine else refuse .wrongState s

def reqRestartLine : Request := ⟨0x2F, .operate, fun _ body => withArgs (argNone body) actRestartLine⟩

def actSetClock (value : Nat) (s : State) : State × Response :=
  okay (timeBytes (some s.now) ++ u32 value)
    (s.modLsv fun v => { v with clock := BitVec.ofNat 32 value, unset := false })

def reqSetClock : Request := ⟨0x38, .operate, fun _ body => withArgs (argClock body) actSetClock⟩

/-! ### Wrappers (R116, R121 to R125) -/

def actRestoreWrapper (tag : Byte) (w : Wrapper) (s : State) : State × Response :=
  if (s.wrapper w).state ≠ .faulted then refuse .wrongState s
  else if (s.wrapper w).channel.state ≠ .idle then refuse .busy s
  else ((s.modWrapper w fun r => { r with owed := some tag }).send w .statusQuery 0 none, .owed)

def reqRestoreWrapper : Request :=
  ⟨0x30, .operate, fun tag body => withArgs (argWrapper body) (actRestoreWrapper tag)⟩

def actWrapperOffline (w : Wrapper) (s : State) : State × Response :=
  match (s.wrapper w).state with
  | .idle | .stopped => okay [] (s.modWrapper w fun r => { r with state := .offline }).settle
  | .wrapping => okay [] (s.modWrapper w fun r => { r with abortPending := true })
  | .paused => okay [] ((s.modWrapper w fun r => { r with abortPending := true }).takeAbort w).settle
  | _ => refuse .wrongState s

def reqWrapperOffline : Request := ⟨0x31, .operate, fun _ body => withArgs (argWrapper body) actWrapperOffline⟩

def actWrapperOnline (w : Wrapper) (s : State) : State × Response :=
  if (s.wrapper w).state = .offline then
    okay [] (s.modWrapper w fun r => { r with state := if r.load = .none then .idle else .stopped }).settle
  else refuse .wrongState s

def reqWrapperOnline : Request := ⟨0x32, .operate, fun _ body => withArgs (argWrapper body) actWrapperOnline⟩

def actFilmLoaded (a : Wrapper × Nat) (s : State) : State × Response :=
  if (s.wrapper a.1).state = .wrapping then refuse .wrongState s
  else
    let s := s.modWrapper a.1 fun r => { r with film := a.2, lowFilmSent := false }
    let r := s.wrapper a.1
    if r.state = .paused ∧ (r.pauseCause = some .filmOut ∨ r.pauseCause = some .filmBreak) then
      okay [] (s.wrapStep a.1).settle
    else okay [] s

def reqFilmLoaded : Request := ⟨0x33, .operate, fun _ body => withArgs (argFilm body) actFilmLoaded⟩

/-- The wrapper's load is a WRAP_STOPPED record. -/
def State.holdsStopped (s : State) (w : Wrapper) : Bool :=
  match s.loaded w with
  | some p => p.state == .wrapStopped
  | none => false

def actRestartWrap (w : Wrapper) (s : State) : State × Response :=
  if (s.wrapper w).state = .stopped ∧ s.holdsStopped w = true then
    let s := (s.modLoaded w fun p => { p with state := .wrapping, passesDone := 0 }).modWrapper w
      fun r => { r with sheetDone := false, cutDone := false }
    okay [] (s.wrapStep w).settle
  else refuse .wrongState s

def reqRestartWrap : Request := ⟨0x34, .operate, fun _ body => withArgs (argWrapper body) actRestartWrap⟩

def actReleaseUnwrapped (w : Wrapper) (s : State) : State × Response :=
  if ((s.wrapper w).state = .stopped ∨ (s.wrapper w).state = .faulted) ∧ s.holdsStopped w = true then
    let s := match s.loadTrack w with
      | some n => s.reject n (some .wrapAbandoned)
      | none => s
    okay [] (s.modWrapper w fun r => if r.state = .stopped then { r with state := .discharging } else r).settle
  else refuse .wrongState s

def reqReleaseUnwrapped : Request := ⟨0x35, .operate, fun _ body => withArgs (argWrapper body) actReleaseUnwrapped⟩

/-! ### The labeller (R142) -/

def actRestoreLabeller (_ : Unit) (s : State) : State × Response :=
  if s.lbu.state = .stopped then okay [] s.restoreLabeller.settle else refuse .wrongState s

def reqRestoreLabeller : Request := ⟨0x36, .operate, fun _ body => withArgs (argNone body) actRestoreLabeller⟩

end Sys2Proof.Machine
end

