-- ==== Sys2Proof/Machine/Configure.lean ====
section
/-! DEFINITION. The CONFIGURE and SERVICE requests: the stored entries (R167 to R169, R175, R177) and the reset (R209). -/

namespace Sys2Proof.Machine

def reqDefineProfile : Request := ⟨0x40, .configure, fun _ body => withArgs (argProfile body) (defineProfile 0x40)⟩

/-- A store request while the host job slot is occupied is BUSY; otherwise SDU's further checks (R170). -/
def withSlot (s : State) (further : State × Response) : State × Response :=
  if s.sdu.host ≠ .empty then refuse .busy s else further

def actDeleteProfile (product : Nat) (s : State) : State × Response :=
  withSlot s <| match s.sdu.slotOf product with
    | none => refuse .notFound s
    | some i => acceptJob 0x41 (.clearProfile i) s

def reqDeleteProfile : Request := ⟨0x41, .configure, fun _ body => withArgs (argProduct body) actDeleteProfile⟩

def actDefineRecipe (a : Fin 16 × Recipe) (s : State) : State × Response :=
  withSlot s (acceptJob 0x42 (.recipe a.1 a.2) s)

def reqDefineRecipe : Request := ⟨0x42, .configure, fun _ body => withArgs (argDefineRecipe body) actDefineRecipe⟩

def actDeleteRecipe (i : Fin 16) (s : State) : State × Response :=
  withSlot s <|
    if s.sdu.recipeInUse (i.val + 1) then refuse .inUse s
    else if s.sdu.recipes[i].state = .empty then refuse .notFound s
    else acceptJob 0x43 (.clearRecipe i) s

def reqDeleteRecipe : Request := ⟨0x43, .configure, fun _ body => withArgs (argRecipe body) actDeleteRecipe⟩

def actSetTiming (v : TimingValues) (s : State) : State × Response := withSlot s (acceptJob 0x44 (.timing v) s)

def reqSetTiming : Request := ⟨0x44, .configure, fun _ body => withArgs (argTiming body) actSetTiming⟩

def actSetSite (sitePrefix : Text) (s : State) : State × Response :=
  withSlot s <| match s.sdu.site with
    | .valid c _ => if c.sitePrefix.isSome then refuse .fixed s else acceptJob 0x45 (.setSite sitePrefix) s
    | _ => refuse .wrongState s

def reqSetSite : Request := ⟨0x45, .configure, fun _ body => withArgs (argPrefix body) actSetSite⟩

/-- LBU's mark check (R135), then SDU's checks (R177). -/
def actRecoverSerials (a : Text × Nat) (s : State) : State × Response :=
  if 0 < s.lbu.next ∧ a.2 < s.lbu.next then refuse .outOfRange s
  else withSlot s <|
    if s.sdu.site.state ≠ .damaged then refuse .wrongState s
    else match markFloor s.sdu.copies with
      | none => refuse .storeFault s
      | some floor =>
        if a.2 < floor then refuse .outOfRange s else acceptJob 0x50 (.recoverSerials a.1 a.2) s

def reqRecoverSerials : Request := ⟨0x50, .service, fun _ body => withArgs (argRecover body) actRecoverSerials⟩

def actResetController (_ : Unit) (s : State) : State × Response :=
  if s.sdu.writing then refuse .busy s else okay [] (s.modLsv fun v => { v with resetPending := true })

def reqResetController : Request := ⟨0x51, .service, fun _ body => withArgs (argNone body) actResetController⟩

/-- Every request of R216. -/
def requests : List Request :=
  [reqStatus, reqReadPallet, reqListTrack, reqReadOrder, reqListOrders, reqReadDispatchList, reqReadProfile,
   reqReadRecipe, reqReadLanes, reqReadZones, reqReadWrappers, reqReadSettings] ++
  [reqNewOrder, reqCancelOrder, reqCloseOrder, reqAuthoriseRelease, reqBindLane, reqUnbindLane, reqPauseLane,
   reqResumeLane, reqExtendCutOff, reqDecideHold, reqSupplyProfile, reqRemovePallet, reqReturnPallet, reqClearZone,
   reqConfirmZone, reqRestartLine, reqRestoreWrapper, reqWrapperOffline, reqWrapperOnline, reqFilmLoaded,
   reqRestartWrap, reqReleaseUnwrapped, reqRestoreLabeller, reqInhibitHeads, reqSetClock] ++
  [reqDefineProfile, reqDeleteProfile, reqDefineRecipe, reqDeleteRecipe, reqSetTiming, reqSetSite, reqRecoverSerials,
   reqResetController]

end Sys2Proof.Machine
end

