-- ==== Sys2Proof/Machine/Link.lean ====
section
/-! DEFINITION. The Link Unit's receiving side (R181 to R188): the receiver, the receive buffer, the taking of a request,
the frame sent. -/

namespace Sys2Proof.Machine

namespace State

/-! ### Taking a request (R185 to R188) -/

/-- The reply of a request taken, placed at the end of the reply path; an owed one is made later. -/
def answer (kind tag : Byte) : State × Response → State
  | (s, .now st data) => s.place (.reply tag kind st data)
  | (s, .owed) => s

/-- A request taken: BUSY during POWER_UP, NOT_PERMITTED by its class, else handed on. -/
def takeRequest (r : Request) (tag : Byte) (body : List Byte) (s : State) : State :=
  if s.lsv.line = .powerUp then s.place (.reply tag r.kind .busy [])
  else if r.cls.admitted s.lsv.key = false then s.place (.reply tag r.kind .notPermitted [])
  else answer r.kind tag (r.handle tag body s)

/-- A frame taken: by its kind, a request, or MALFORMED when its kind names none (R185; log 25). -/
def takeFrame (f : Frame) (s : State) : State :=
  match requests.find? (fun r => r.kind == f.kind) with
  | some r => s.takeRequest r f.tag f.body
  | none => s.place (.reply f.tag f.kind .malformed [])

/-! ### The receive buffer (R184) -/

/-- One more on the receive error count, which stays at 65,535 (R183). -/
def countError (s : State) : State :=
  s.modLku fun l => { l with errors := if l.errors < Config.errorCeiling then l.errors + 1 else l.errors }

/-- A good frame: taken at once below 8 replies waiting or owed, else held; an overrun while one is held; discarded once a
reset is pending (R184, R197; log 39). -/
def goodFrame (f : Frame) (take : State → State) (s : State) : State :=
  if s.lsv.resetPending then s
  else if s.lku.buffer.isSome then s.countError
  else if s.replyCount < Config.replyLimit then take s
  else s.modLku fun l => { l with buffer := some f }

/-- The good frame of a request arrives. -/
def receive (r : Request) (tag : Byte) (body : List Byte) (s : State) : State :=
  s.event (goodFrame ⟨r.kind, tag, body⟩ (takeRequest r tag body))

/-- The held frame is taken when its turn has come (R184). -/
def takeHeld (s : State) : State :=
  match s.lku.buffer with
  | some f =>
    if s.replyCount < Config.replyLimit ∧ s.lsv.resetPending = false then
      (s.modLku fun l => { l with buffer := none }).takeFrame f
    else s
  | none => s

/-! ### The receiver (R182, R183) -/

def listenAt (r : Receiver) (s : State) : State := s.modLku fun l => { l with receiver := r, gapTimer := true }

/-- Back to HUNT with the gap timer stopped. -/
def hunt (s : State) : State := s.modLku fun l => { l with receiver := .hunt, gapTimer := false }

/-- The frame in assembly is discarded and counted. -/
def discard (s : State) : State := s.hunt.countError

/-- The end of a frame: the received check against the CRC of length, kind, tag and body. -/
def endFrameIn (length : Nat) (got : List Byte) (check : Nat) (s : State) : State :=
  if (crc (u16 length ++ got)).toNat = check then
    match got with
    | kind :: tag :: body => s.hunt.goodFrame ⟨kind, tag, body⟩ (takeFrame ⟨kind, tag, body⟩)
    | _ => s.discard
  else s.discard

/-- A byte of the line, with or without a framing error. -/
def takeByte (b : Byte) (framingError : Bool) (s : State) : State :=
  match s.lku.receiver with
  | .hunt => if b = 0x5A ∧ framingError = false then s.listenAt (.length none) else s
  | r =>
    if framingError then s.discard
    else match r with
      | .length none => s.listenAt (.length (some b))
      | .length (some low) =>
        let n := low.toNat + 256 * b.toNat
        if 2 ≤ n ∧ n ≤ 1022 then s.listenAt (.content n []) else s.discard
      | .content n got =>
        let got := got ++ [b]
        s.listenAt (if got.length < n then .content n got else .check n got none)
      | .check n got none => s.listenAt (.check n got (some b))
      | .check n got (some low) => s.endFrameIn n got (low.toNat + 256 * b.toNat)
      | .hunt => s

/-- The byte gap timer expires (R183). -/
def gapTimeout (s : State) : State := if s.lku.gapTimer then s.discard else s

/-! ### The frame sent (R196, R184) -/

/-- The frame being sent ends: the transmitter chooses again, and a reply that so left the path lets a held frame be taken
(log 4). -/
def frameEnds (s : State) : State :=
  if s.lku.sending.isSome then (s.modLku fun l => { l with sending := none }).pump.takeHeld else s

end State

end Sys2Proof.Machine
end

