-- ==== Sys2Proof/Machine/CheckEvents.lean ====
section
/-! DEFINITION. The meanings of the commands of the weigh unit, the scanner and the hold timer (file 03). -/

namespace Sys2Proof.Machine

/-- A weight reading, in tenths of a kilogram (R52). -/
def execWeightReading (weight : Int) (stable : Bool) (s : State) : Host.Outcome State Fault Refusal :=
  .next (s.arrival fun s => (s.takeWeight weight stable).settle)

/-- The weight timer expires (R53). -/
def execWeightTimerExpiry (s : State) : Host.Outcome State Fault Refusal :=
  .next (s.event fun s => s.weightTimeout.settle)

/-- A frame begin of the scanner (R54). -/
def execFrameBegin (s : State) : Host.Outcome State Fault Refusal :=
  .next (s.arrival fun s => s.beginFrame.settle)

/-- A row of the scanner (R56). -/
def execScanRow (row : Nat) (cells : List Word16) (s : State) : Host.Outcome State Fault Refusal :=
  .next (s.arrival fun s => (s.takeRow row cells).settle)

/-- A frame end of the scanner (R58). -/
def execFrameEnd (s : State) : Host.Outcome State Fault Refusal :=
  .next (s.arrival fun s => (s.endFrame false).settle)

/-- The scan timer expires (R59). -/
def execScanTimerExpiry (s : State) : Host.Outcome State Fault Refusal :=
  .next (s.event fun s => s.scanTimeout.settle)

/-- The hold timer expires (R70). -/
def execHoldTimerExpiry (s : State) : Host.Outcome State Fault Refusal :=
  .next (s.event fun s => s.holdTimeout.settle)

end Sys2Proof.Machine
end

