-- ==== Sys2Proof/Machine/LabelEvents.lean ====
section
/-! DEFINITION. The meanings of the commands of the label heads, the label reader and the store (files 06 and 08). -/

namespace Sys2Proof.Machine

/-- A head answers APPLIED (R138). -/
def execHeadApplied (f : Face) (s : State) : Host.Outcome State Fault Refusal :=
  .next (s.event (State.applied f))

/-- A head answers FAULT (R141). -/
def execHeadFault (f : Face) (s : State) : Host.Outcome State Fault Refusal :=
  .next (s.event (State.headFailed f .headFault))

/-- The apply timer of a head expires (R138, R141). -/
def execApplyTimerExpiry (f : Face) (s : State) : Host.Outcome State Fault Refusal :=
  .next (s.event (State.applyTimeout f))

/-- The label reader gives the text of a face (R139). -/
def execReaderText (f : Face) (text : Text) (s : State) : Host.Outcome State Fault Refusal :=
  .next (s.event fun s => (s.readText f text).settle)

/-- The label reader answers NO_READ (R139). -/
def execReaderNoRead (f : Face) (s : State) : Host.Outcome State Fault Refusal :=
  .next (s.event fun s => (s.readResult f .noRead).settle)

/-- The read timer expires (R139). -/
def execReadTimerExpiry (s : State) : Host.Outcome State Fault Refusal :=
  .next (s.event fun s => s.readTimeout.settle)

/-- The store reports the end of the write it names (R174; log 42). -/
def execStoreWriteReport (report : StoreReport) (s : State) : Host.Outcome State Fault Refusal :=
  .next (s.event (State.writeReported report))

/-- The write timer expires (R174). -/
def execWriteTimerExpiry (s : State) : Host.Outcome State Fault Refusal :=
  .next (s.event State.writeTimeout)

end Sys2Proof.Machine
end

