-- ==== Sys2Proof/Machine/LineEvents.lean ====
section
/-! DEFINITION. The meanings of the commands of the lanes' inputs and timers and the supervisor's inputs (files 07 and 10). -/

namespace Sys2Proof.Machine

/-- The minute timer of a lane expires (R151). -/
def execMinuteTimerExpiry (n : Lane) (s : State) : Host.Outcome State Fault Refusal :=
  .next (s.event fun s => (s.minuteExpired n).settle)

/-- A truck-present input changes (R148). -/
def execTruckPresentChange (n : Lane) (active : Bool) (s : State) : Host.Outcome State Fault Refusal :=
  .next ((s.modPins fun p => { p with trucks := p.trucks.set n active }).arrival
    fun s => (s.truckChanged n active).settle)

/-- The key switch inputs change (R200). -/
def execKeySwitchChange (run setup service : Bool) (s : State) : Host.Outcome State Fault Refusal :=
  .next ((s.modPins fun p => { p with keyRun := run, keySetup := setup, keyService := service }).arrival
    (State.changeKey (keyReading run setup service)))

/-- The emergency-stop chain opens (R203). -/
def execChainOpens (s : State) : Host.Outcome State Fault Refusal :=
  .next ((s.modPins fun p => { p with chainOpen := true }).arrival State.openChain)

/-- The emergency-stop chain closes (R203). -/
def execChainCloses (s : State) : Host.Outcome State Fault Refusal :=
  .next ((s.modPins fun p => { p with chainOpen := false }).arrival State.closeChain)

end Sys2Proof.Machine
end

