-- ==== Sys2Proof/Machine/LinkEvents.lean ====
section
/-! DEFINITION. The meanings of the commands of the link's own events (R182 to R184, R196). -/

namespace Sys2Proof.Machine

/-- A frame fails its check (R182; log 3). -/
def execFrameCheckFailed (s : State) : Host.Outcome State Fault Refusal :=
  .next (s.event State.discard)

/-- A second good frame completes while one is held (R184); it cannot while none is (log 9). -/
def execReceiveOverrun (s : State) : Host.Outcome State Fault Refusal :=
  .next (s.event fun s => if s.lku.buffer.isSome then s.discard else s)

/-- The byte gap timer expires (R183). -/
def execByteGapTimeout (s : State) : Host.Outcome State Fault Refusal :=
  .next (s.event State.gapTimeout)

/-- The held frame is taken (R184). -/
def execHeldFrameTaken (s : State) : Host.Outcome State Fault Refusal :=
  .next (s.event State.takeHeld)

/-- The frame being sent ends (R196). -/
def execFrameSent (s : State) : Host.Outcome State Fault Refusal :=
  .next (s.event State.frameEnds)

/-- A byte of the line (R182). -/
def execLinkByteReceived (byte : Byte) (framingError : Bool) (s : State) : Host.Outcome State Fault Refusal :=
  .next (s.event (State.takeByte byte framingError))

end Sys2Proof.Machine
end

