-- ==== Sys2Proof/Machine/Requests.lean ====
section
/-! DEFINITION. The meanings of the request commands: a good frame of the request arrives (R182, R184) and is taken, held or
discarded. -/

namespace Sys2Proof.Machine

/-- STATUS (R198). -/
def execStatus (tag : Byte) (body : List Byte) (s : State) : Host.Outcome State Fault Refusal :=
  .next (s.receive reqStatus tag body)

/-- READ PALLET (R22). -/
def execReadPallet (tag : Byte) (body : List Byte) (s : State) : Host.Outcome State Fault Refusal :=
  .next (s.receive reqReadPallet tag body)

/-- LIST TRACK (R23). -/
def execListTrack (tag : Byte) (body : List Byte) (s : State) : Host.Outcome State Fault Refusal :=
  .next (s.receive reqListTrack tag body)

/-- READ ORDER (R47). -/
def execReadOrder (tag : Byte) (body : List Byte) (s : State) : Host.Outcome State Fault Refusal :=
  .next (s.receive reqReadOrder tag body)

/-- LIST ORDERS (R48). -/
def execListOrders (tag : Byte) (body : List Byte) (s : State) : Host.Outcome State Fault Refusal :=
  .next (s.receive reqListOrders tag body)

/-- READ DISPATCH LIST (R49). -/
def execReadDispatchList (tag : Byte) (body : List Byte) (s : State) : Host.Outcome State Fault Refusal :=
  .next (s.receive reqReadDispatchList tag body)

/-- READ PROFILE (R179). -/
def execReadProfile (tag : Byte) (body : List Byte) (s : State) : Host.Outcome State Fault Refusal :=
  .next (s.receive reqReadProfile tag body)

/-- READ RECIPE (R179). -/
def execReadRecipe (tag : Byte) (body : List Byte) (s : State) : Host.Outcome State Fault Refusal :=
  .next (s.receive reqReadRecipe tag body)

/-- READ LANES (R162). -/
def execReadLanes (tag : Byte) (body : List Byte) (s : State) : Host.Outcome State Fault Refusal :=
  .next (s.receive reqReadLanes tag body)

/-- READ ZONES (R104). -/
def execReadZones (tag : Byte) (body : List Byte) (s : State) : Host.Outcome State Fault Refusal :=
  .next (s.receive reqReadZones tag body)

/-- READ WRAPPERS (R127). -/
def execReadWrappers (tag : Byte) (body : List Byte) (s : State) : Host.Outcome State Fault Refusal :=
  .next (s.receive reqReadWrappers tag body)

/-- READ SETTINGS (R180). -/
def execReadSettings (tag : Byte) (body : List Byte) (s : State) : Host.Outcome State Fault Refusal :=
  .next (s.receive reqReadSettings tag body)

/-- NEW ORDER (R29, R30). -/
def execNewOrder (tag : Byte) (body : List Byte) (s : State) : Host.Outcome State Fault Refusal :=
  .next (s.receive reqNewOrder tag body)

/-- CANCEL ORDER (R36). -/
def execCancelOrder (tag : Byte) (body : List Byte) (s : State) : Host.Outcome State Fault Refusal :=
  .next (s.receive reqCancelOrder tag body)

/-- CLOSE ORDER (R46). -/
def execCloseOrder (tag : Byte) (body : List Byte) (s : State) : Host.Outcome State Fault Refusal :=
  .next (s.receive reqCloseOrder tag body)

/-- AUTHORISE RELEASE (R45). -/
def execAuthoriseRelease (tag : Byte) (body : List Byte) (s : State) : Host.Outcome State Fault Refusal :=
  .next (s.receive reqAuthoriseRelease tag body)

/-- BIND LANE (R149). -/
def execBindLane (tag : Byte) (body : List Byte) (s : State) : Host.Outcome State Fault Refusal :=
  .next (s.receive reqBindLane tag body)

/-- UNBIND LANE (R150). -/
def execUnbindLane (tag : Byte) (body : List Byte) (s : State) : Host.Outcome State Fault Refusal :=
  .next (s.receive reqUnbindLane tag body)

/-- PAUSE LANE (R153). -/
def execPauseLane (tag : Byte) (body : List Byte) (s : State) : Host.Outcome State Fault Refusal :=
  .next (s.receive reqPauseLane tag body)

/-- RESUME LANE (R153). -/
def execResumeLane (tag : Byte) (body : List Byte) (s : State) : Host.Outcome State Fault Refusal :=
  .next (s.receive reqResumeLane tag body)

/-- EXTEND CUT-OFF (R154). -/
def execExtendCutOff (tag : Byte) (body : List Byte) (s : State) : Host.Outcome State Fault Refusal :=
  .next (s.receive reqExtendCutOff tag body)

/-- DECIDE HOLD (R67 to R69). -/
def execDecideHold (tag : Byte) (body : List Byte) (s : State) : Host.Outcome State Fault Refusal :=
  .next (s.receive reqDecideHold tag body)

/-- SUPPLY PROFILE (R73). -/
def execSupplyProfile (tag : Byte) (body : List Byte) (s : State) : Host.Outcome State Fault Refusal :=
  .next (s.receive reqSupplyProfile tag body)

/-- REMOVE PALLET (R20, R21). -/
def execRemovePallet (tag : Byte) (body : List Byte) (s : State) : Host.Outcome State Fault Refusal :=
  .next (s.receive reqRemovePallet tag body)

/-- RETURN PALLET (R17, R18). -/
def execReturnPallet (tag : Byte) (body : List Byte) (s : State) : Host.Outcome State Fault Refusal :=
  .next (s.receive reqReturnPallet tag body)

/-- CLEAR ZONE (R102). -/
def execClearZone (tag : Byte) (body : List Byte) (s : State) : Host.Outcome State Fault Refusal :=
  .next (s.receive reqClearZone tag body)

/-- CONFIRM ZONE (R103). -/
def execConfirmZone (tag : Byte) (body : List Byte) (s : State) : Host.Outcome State Fault Refusal :=
  .next (s.receive reqConfirmZone tag body)

/-- RESTART LINE (R204, R205). -/
def execRestartLine (tag : Byte) (body : List Byte) (s : State) : Host.Outcome State Fault Refusal :=
  .next (s.receive reqRestartLine tag body)

/-- RESTORE WRAPPER (R121). -/
def execRestoreWrapper (tag : Byte) (body : List Byte) (s : State) : Host.Outcome State Fault Refusal :=
  .next (s.receive reqRestoreWrapper tag body)

/-- WRAPPER OFFLINE (R124). -/
def execWrapperOffline (tag : Byte) (body : List Byte) (s : State) : Host.Outcome State Fault Refusal :=
  .next (s.receive reqWrapperOffline tag body)

/-- WRAPPER ONLINE (R125). -/
def execWrapperOnline (tag : Byte) (body : List Byte) (s : State) : Host.Outcome State Fault Refusal :=
  .next (s.receive reqWrapperOnline tag body)

/-- FILM LOADED (R116). -/
def execFilmLoaded (tag : Byte) (body : List Byte) (s : State) : Host.Outcome State Fault Refusal :=
  .next (s.receive reqFilmLoaded tag body)

/-- RESTART WRAP (R122). -/
def execRestartWrap (tag : Byte) (body : List Byte) (s : State) : Host.Outcome State Fault Refusal :=
  .next (s.receive reqRestartWrap tag body)

/-- RELEASE UNWRAPPED (R123). -/
def execReleaseUnwrapped (tag : Byte) (body : List Byte) (s : State) : Host.Outcome State Fault Refusal :=
  .next (s.receive reqReleaseUnwrapped tag body)

/-- RESTORE LABELLER (R142). -/
def execRestoreLabeller (tag : Byte) (body : List Byte) (s : State) : Host.Outcome State Fault Refusal :=
  .next (s.receive reqRestoreLabeller tag body)

/-- INHIBIT HEADS (R75). -/
def execInhibitHeads (tag : Byte) (body : List Byte) (s : State) : Host.Outcome State Fault Refusal :=
  .next (s.receive reqInhibitHeads tag body)

/-- SET CLOCK (R207). -/
def execSetClock (tag : Byte) (body : List Byte) (s : State) : Host.Outcome State Fault Refusal :=
  .next (s.receive reqSetClock tag body)

/-- DEFINE PROFILE (R167). -/
def execDefineProfile (tag : Byte) (body : List Byte) (s : State) : Host.Outcome State Fault Refusal :=
  .next (s.receive reqDefineProfile tag body)

/-- DELETE PROFILE (R167). -/
def execDeleteProfile (tag : Byte) (body : List Byte) (s : State) : Host.Outcome State Fault Refusal :=
  .next (s.receive reqDeleteProfile tag body)

/-- DEFINE RECIPE (R168). -/
def execDefineRecipe (tag : Byte) (body : List Byte) (s : State) : Host.Outcome State Fault Refusal :=
  .next (s.receive reqDefineRecipe tag body)

/-- DELETE RECIPE (R168). -/
def execDeleteRecipe (tag : Byte) (body : List Byte) (s : State) : Host.Outcome State Fault Refusal :=
  .next (s.receive reqDeleteRecipe tag body)

/-- SET TIMING (R169). -/
def execSetTiming (tag : Byte) (body : List Byte) (s : State) : Host.Outcome State Fault Refusal :=
  .next (s.receive reqSetTiming tag body)

/-- SET SITE (R175). -/
def execSetSite (tag : Byte) (body : List Byte) (s : State) : Host.Outcome State Fault Refusal :=
  .next (s.receive reqSetSite tag body)

/-- RECOVER SERIALS (R177). -/
def execRecoverSerials (tag : Byte) (body : List Byte) (s : State) : Host.Outcome State Fault Refusal :=
  .next (s.receive reqRecoverSerials tag body)

/-- RESET CONTROLLER (R209). -/
def execResetController (tag : Byte) (body : List Byte) (s : State) : Host.Outcome State Fault Refusal :=
  .next (s.receive reqResetController tag body)

/-- A frame of a kind that names no request (R185). -/
def execUnknownRequestKind (kind tag : Byte) (body : List Byte) (s : State) : Host.Outcome State Fault Refusal :=
  .next (s.event (State.goodFrame ⟨kind, tag, body⟩ (State.takeFrame ⟨kind, tag, body⟩)))

end Sys2Proof.Machine
end

