-- ==== Sys2Proof/Machine/ResetEvents.lean ====
section
/-! DEFINITION. The meanings of the commands of the resets, start-up and the clock (R206, R208 to R211). -/

namespace Sys2Proof.Machine

/-- The pending reset is handed to LSV (R197, R209). -/
def execResetRequest (s : State) : Host.Outcome State Fault Refusal :=
  .next s.requestedReset

/-- The supply comes into its range (R208). -/
def execPowerOn (s : State) : Host.Outcome State Fault Refusal :=
  .next s.powerOn

/-- The reset input is asserted (R208). -/
def execResetInput (s : State) : Host.Outcome State Fault Refusal :=
  .next s.assertReset

/-- The end of start-up (R210, R211). -/
def execStartUpEnd (s : State) : Host.Outcome State Fault Refusal :=
  .next (if s.startUpOver then s.endStartUp.pump else s)

/-- The supply leaves its range (R208). -/
def execPowerLoss (s : State) : Host.Outcome State Fault Refusal :=
  .next s.powerLoss

/-- The reset input is released (R208). -/
def execResetInputReleased (s : State) : Host.Outcome State Fault Refusal :=
  .next s.releaseReset

/-- A second passes (R206; log 7). -/
def execClockTick (s : State) : Host.Outcome State Fault Refusal :=
  .next (if s.inReset then s else s.tick)

end Sys2Proof.Machine
end

