-- ==== Sys2Proof/Machine/StationEvents.lean ====
section
/-! DEFINITION. The meanings of the commands of the wrapper stations (file 05). -/

namespace Sys2Proof.Machine

/-- A station accepts a command (R112). -/
def execStationAccepted (w : Wrapper) (number : Byte) (s : State) : Host.Outcome State Fault Refusal :=
  .next (s.event (State.stationAccepts w number))

/-- A station answers DONE (R113). -/
def execStationDone (w : Wrapper) (number : Byte) (s : State) : Host.Outcome State Fault Refusal :=
  .next (s.event fun s => (s.stationOutcome w number (State.passDone w)).settle)

/-- A station answers FILM_BREAK (R113, R115). -/
def execStationFilmBreak (w : Wrapper) (number : Byte) (s : State) : Host.Outcome State Fault Refusal :=
  .next (s.event fun s => (s.stationOutcome w number (State.filmBreak w)).settle)

/-- A station answers FAULT (R113, R120). -/
def execStationFault (w : Wrapper) (number : Byte) (s : State) : Host.Outcome State Fault Refusal :=
  .next (s.event (State.stationFaults w number))

/-- A station reports its status (R121, R128). -/
def execStationStatusReport (w : Wrapper) (number : Byte) (healthy loaded : Bool) (s : State) : Host.Outcome State Fault Refusal :=
  .next (s.event fun s => (s.statusReported w number healthy loaded).settle)

/-- The acceptance timer of a channel expires (R112, R121). -/
def execAcceptanceTimerExpiry (w : Wrapper) (s : State) : Host.Outcome State Fault Refusal :=
  .next (s.event (State.acceptanceTimeout w))

/-- The pass timer of a channel expires (R113). -/
def execPassTimerExpiry (w : Wrapper) (s : State) : Host.Outcome State Fault Refusal :=
  .next (s.event (State.passTimeout w))

end Sys2Proof.Machine
end

