-- ==== Sys2Proof/Machine/ZoneEvents.lean ====
section
/-! DEFINITION. The meanings of the commands of the eyes, the tag reader and the timers of moves (files 01 and 04). -/

namespace Sys2Proof.Machine

/-- An eye is made (R80); the input is written whether or not the change is taken (R210). -/
def execEyeMade (z : Zone) (s : State) : Host.Outcome State Fault Refusal :=
  .next ((s.modPins fun p => { p with eyes := p.eyes.set z.idx true }).arrival fun s => (s.eyeIsMade z).settle)

/-- An eye clears (R80). -/
def execEyeCleared (z : Zone) (s : State) : Host.Outcome State Fault Refusal :=
  .next ((s.modPins fun p => { p with eyes := p.eyes.set z.idx false }).arrival fun s => (s.eyeIsCleared z).settle)

/-- A tag read, or no read (R10, R3). -/
def execTagRead (read : Option TagFields) (s : State) : Host.Outcome State Fault Refusal :=
  .next (s.arrival fun s => (s.takeTag read).settle)

/-- The tag timer expires (R10). -/
def execTagTimerExpiry (s : State) : Host.Outcome State Fault Refusal :=
  .next (s.event fun s => s.tagTimeout.settle)

/-- The move timer of the move out of a zone expires (R84). -/
def execMoveTimerExpiry (source : Zone) (s : State) : Host.Outcome State Fault Refusal :=
  .next (s.event (State.moveTimeout source))

/-- The move timer of a gate departure expires (R97). -/
def execDepartureTimeout (n : Lane) (s : State) : Host.Outcome State Fault Refusal :=
  .next (s.event (State.departureTimeout n))

/-- The lane wait timer expires (R94). -/
def execLaneWaitTimerExpiry (s : State) : Host.Outcome State Fault Refusal :=
  .next (s.event fun s => s.laneWaitTimeout.settle)

end Sys2Proof.Machine
end

