-- ==== Sys2Proof/Machine/Dispatch.lean ====
section
/-! DEFINITION. The meaning of every command, one arm per constructor of `Instr`. -/

namespace Sys2Proof.Machine

def exec (i : Instr) (s : State) : Host.Outcome State Fault Refusal :=
  match i with
  | .status tag body => Sys2Proof.Machine.execStatus tag body s
  | .readPallet tag body => Sys2Proof.Machine.execReadPallet tag body s
  | .listTrack tag body => Sys2Proof.Machine.execListTrack tag body s
  | .readOrder tag body => Sys2Proof.Machine.execReadOrder tag body s
  | .listOrders tag body => Sys2Proof.Machine.execListOrders tag body s
  | .readDispatchList tag body => Sys2Proof.Machine.execReadDispatchList tag body s
  | .readProfile tag body => Sys2Proof.Machine.execReadProfile tag body s
  | .readRecipe tag body => Sys2Proof.Machine.execReadRecipe tag body s
  | .readLanes tag body => Sys2Proof.Machine.execReadLanes tag body s
  | .readZones tag body => Sys2Proof.Machine.execReadZones tag body s
  | .readWrappers tag body => Sys2Proof.Machine.execReadWrappers tag body s
  | .readSettings tag body => Sys2Proof.Machine.execReadSettings tag body s
  | .newOrder tag body => Sys2Proof.Machine.execNewOrder tag body s
  | .cancelOrder tag body => Sys2Proof.Machine.execCancelOrder tag body s
  | .closeOrder tag body => Sys2Proof.Machine.execCloseOrder tag body s
  | .authoriseRelease tag body => Sys2Proof.Machine.execAuthoriseRelease tag body s
  | .bindLane tag body => Sys2Proof.Machine.execBindLane tag body s
  | .unbindLane tag body => Sys2Proof.Machine.execUnbindLane tag body s
  | .pauseLane tag body => Sys2Proof.Machine.execPauseLane tag body s
  | .resumeLane tag body => Sys2Proof.Machine.execResumeLane tag body s
  | .extendCutOff tag body => Sys2Proof.Machine.execExtendCutOff tag body s
  | .decideHold tag body => Sys2Proof.Machine.execDecideHold tag body s
  | .supplyProfile tag body => Sys2Proof.Machine.execSupplyProfile tag body s
  | .removePallet tag body => Sys2Proof.Machine.execRemovePallet tag body s
  | .returnPallet tag body => Sys2Proof.Machine.execReturnPallet tag body s
  | .clearZone tag body => Sys2Proof.Machine.execClearZone tag body s
  | .confirmZone tag body => Sys2Proof.Machine.execConfirmZone tag body s
  | .restartLine tag body => Sys2Proof.Machine.execRestartLine tag body s
  | .restoreWrapper tag body => Sys2Proof.Machine.execRestoreWrapper tag body s
  | .wrapperOffline tag body => Sys2Proof.Machine.execWrapperOffline tag body s
  | .wrapperOnline tag body => Sys2Proof.Machine.execWrapperOnline tag body s
  | .filmLoaded tag body => Sys2Proof.Machine.execFilmLoaded tag body s
  | .restartWrap tag body => Sys2Proof.Machine.execRestartWrap tag body s
  | .releaseUnwrapped tag body => Sys2Proof.Machine.execReleaseUnwrapped tag body s
  | .restoreLabeller tag body => Sys2Proof.Machine.execRestoreLabeller tag body s
  | .inhibitHeads tag body => Sys2Proof.Machine.execInhibitHeads tag body s
  | .setClock tag body => Sys2Proof.Machine.execSetClock tag body s
  | .defineProfile tag body => Sys2Proof.Machine.execDefineProfile tag body s
  | .deleteProfile tag body => Sys2Proof.Machine.execDeleteProfile tag body s
  | .defineRecipe tag body => Sys2Proof.Machine.execDefineRecipe tag body s
  | .deleteRecipe tag body => Sys2Proof.Machine.execDeleteRecipe tag body s
  | .setTiming tag body => Sys2Proof.Machine.execSetTiming tag body s
  | .setSite tag body => Sys2Proof.Machine.execSetSite tag body s
  | .recoverSerials tag body => Sys2Proof.Machine.execRecoverSerials tag body s
  | .resetController tag body => Sys2Proof.Machine.execResetController tag body s
  | .unknownRequestKind kind tag body => Sys2Proof.Machine.execUnknownRequestKind kind tag body s
  | .frameCheckFailed => Sys2Proof.Machine.execFrameCheckFailed s
  | .receiveOverrun => Sys2Proof.Machine.execReceiveOverrun s
  | .byteGapTimeout => Sys2Proof.Machine.execByteGapTimeout s
  | .heldFrameTaken => Sys2Proof.Machine.execHeldFrameTaken s
  | .frameSent => Sys2Proof.Machine.execFrameSent s
  | .resetRequest => Sys2Proof.Machine.execResetRequest s
  | .powerOn => Sys2Proof.Machine.execPowerOn s
  | .resetInput => Sys2Proof.Machine.execResetInput s
  | .startUpEnd => Sys2Proof.Machine.execStartUpEnd s
  | .eyeMade z => Sys2Proof.Machine.execEyeMade z s
  | .eyeCleared z => Sys2Proof.Machine.execEyeCleared z s
  | .tagRead read => Sys2Proof.Machine.execTagRead read s
  | .tagTimerExpiry => Sys2Proof.Machine.execTagTimerExpiry s
  | .weightReading weight stable => Sys2Proof.Machine.execWeightReading weight stable s
  | .weightTimerExpiry => Sys2Proof.Machine.execWeightTimerExpiry s
  | .frameBegin => Sys2Proof.Machine.execFrameBegin s
  | .scanRow row cells => Sys2Proof.Machine.execScanRow row cells s
  | .frameEnd => Sys2Proof.Machine.execFrameEnd s
  | .scanTimerExpiry => Sys2Proof.Machine.execScanTimerExpiry s
  | .holdTimerExpiry => Sys2Proof.Machine.execHoldTimerExpiry s
  | .moveTimerExpiry source => Sys2Proof.Machine.execMoveTimerExpiry source s
  | .departureTimeout n => Sys2Proof.Machine.execDepartureTimeout n s
  | .laneWaitTimerExpiry => Sys2Proof.Machine.execLaneWaitTimerExpiry s
  | .minuteTimerExpiry n => Sys2Proof.Machine.execMinuteTimerExpiry n s
  | .truckPresentChange n active => Sys2Proof.Machine.execTruckPresentChange n active s
  | .keySwitchChange run setup service => Sys2Proof.Machine.execKeySwitchChange run setup service s
  | .chainOpens => Sys2Proof.Machine.execChainOpens s
  | .chainCloses => Sys2Proof.Machine.execChainCloses s
  | .stationAccepted w number => Sys2Proof.Machine.execStationAccepted w number s
  | .stationDone w number => Sys2Proof.Machine.execStationDone w number s
  | .stationFilmBreak w number => Sys2Proof.Machine.execStationFilmBreak w number s
  | .stationFault w number => Sys2Proof.Machine.execStationFault w number s
  | .stationStatusReport w number healthy loaded => Sys2Proof.Machine.execStationStatusReport w number healthy loaded s
  | .acceptanceTimerExpiry w => Sys2Proof.Machine.execAcceptanceTimerExpiry w s
  | .passTimerExpiry w => Sys2Proof.Machine.execPassTimerExpiry w s
  | .headApplied f => Sys2Proof.Machine.execHeadApplied f s
  | .headFault f => Sys2Proof.Machine.execHeadFault f s
  | .applyTimerExpiry f => Sys2Proof.Machine.execApplyTimerExpiry f s
  | .readerText f text => Sys2Proof.Machine.execReaderText f text s
  | .readerNoRead f => Sys2Proof.Machine.execReaderNoRead f s
  | .readTimerExpiry => Sys2Proof.Machine.execReadTimerExpiry s
  | .storeWriteReport report => Sys2Proof.Machine.execStoreWriteReport report s
  | .writeTimerExpiry => Sys2Proof.Machine.execWriteTimerExpiry s
  | .clockTick => Sys2Proof.Machine.execClockTick s
  | .powerLoss => Sys2Proof.Machine.execPowerLoss s
  | .resetInputReleased => Sys2Proof.Machine.execResetInputReleased s
  | .linkByteReceived byte framingError => Sys2Proof.Machine.execLinkByteReceived byte framingError s

end Sys2Proof.Machine
end

