-- ==== Sys2Proof/Safety.lean ====
section
/-! DEFINITION. What the statements are made of: the invariants a step keeps, the requests with their commands and body
layouts, when a request is handed to its owner, the state after its reply, which blocks a step may change, what an order's
end does to its records, and an entry as start-up finds it. -/

namespace Sys2Proof.Machine

/-! ### The blocks of the state -/

/-- The parts a state is made of, one per field of `State`. -/
inductive Block where
  | track | book | check | zones | wrappers | label | lanes | store | link | supervisor | pins | ports | drawn | queue
deriving DecidableEq, Repr

/-- A part of the state is the same in two states. -/
def Block.same (s t : State) : Block → Prop
  | .track => t.trt = s.trt
  | .book => t.obk = s.obk
  | .check => t.cku = s.cku
  | .zones => t.znc = s.znc
  | .wrappers => t.wsq = s.wsq
  | .label => t.lbu = s.lbu
  | .lanes => t.lnu = s.lnu
  | .store => t.sdu = s.sdu
  | .link => t.lku = s.lku
  | .supervisor => t.lsv = s.lsv
  | .pins => t.pins = s.pins
  | .ports => t.ports = s.ports
  | .drawn => t.freeCount = s.freeCount
  | .queue => t.pending = s.pending

namespace State

/-- From s to t nothing changed but in the blocks listed. -/
def onlyChanged (s t : State) (blocks : List Block) : Prop := ∀ b, b ∉ blocks → b.same s t

/-! ### Requests -/

/-- A request that arrives now is taken and handed to its owner: not in reset nor in POWER_UP, no reset pending, no frame
held, fewer than 8 replies waiting or owed, its class admitted by the key position (R184 to R186, R197). -/
def hears (s : State) (r : Request) : Bool :=
  !s.inReset && s.taking && !s.lsv.resetPending && s.lku.buffer.isNone && decide (s.replyCount < Config.replyLimit) &&
    r.cls.admitted s.lsv.key

/-- The state after a reply is placed at the end of the reply path, with an idle transmitter having chosen (R188, R196). -/
def replied (s : State) (tag kind : Byte) (st : Status) (data : List Byte) : State :=
  (s.place (.reply tag kind st data)).pump

/-- The commands run in turn, up to the first that gives no next state. -/
def afterAll : List Instr → State → Host.Outcome State Fault Refusal
  | [], s => .next s
  | c :: rest, s => match exec c s with
    | .next t => afterAll rest t
    | stop => stop

/-! ### The invariants -/

/-- The bounds of the link: 8 replies waiting or owed, 32 notices, an error count of at most 65,535, a job number of one
byte (R183, R184, R190, R195). -/
def linkBounded (s : State) : Prop :=
  s.replyCount ≤ 8 ∧ s.lku.notices.length ≤ 32 ∧ s.lku.errors ≤ 65535 ∧ s.lku.job ≤ 255

/-- The order book holds at most 16 records and no two of one number (R25). -/
def bookSound (s : State) : Prop := s.obk.orders.length ≤ 16 ∧ (s.obk.orders.map (·.number)).Nodup

/-- No number is issued at or above the stored mark: next serial does not pass reserved end, reserved end does not pass the
mark of a VALID site entry, and a reservation being written raises that mark by 100 (R134, R176). -/
def serialsSafe (s : State) : Prop :=
  s.lbu.next ≤ s.lbu.reservedEnd ∧
  ∀ c holds, s.sdu.site = .valid c holds →
    s.lbu.reservedEnd ≤ c.mark ∧ ∀ d, s.sdu.reservation = .inFlight d → d.mark = c.mark + 100

/-- The line states and the inputs that hold them: POWER_UP while the part is in reset, the key in RUN and the chain closed
while RUNNING, the key not in RUN and the chain closed while HALTED (R201, R208). -/
def interlocked (s : State) : Prop :=
  (s.inReset = true → s.lsv.line = .powerUp) ∧
  (s.lsv.line = .running → s.lsv.key = .run ∧ s.lsv.chainOpen = false) ∧
  (s.lsv.line = .halted → s.lsv.key ≠ .run ∧ s.lsv.chainOpen = false)

/-- The outputs: no drive and no gate while the line is STOPPED or in POWER_UP, and the infeed-ready output only while it is
RUNNING (R87, R100, R105, R208). -/
def outputsSafe (s : State) : Prop :=
  (s.lsv.line = .stopped ∨ s.lsv.line = .powerUp →
    (∀ z : Zone, (s.zone z).drive = false) ∧ ∀ n : Lane, s.znc.gates[n] = false) ∧
  (s.lsv.line ≠ .running → s.znc.infeedReady = false)

end State

/-! ### The stored entries at start-up, and the records of an ended order -/

/-- An entry as start-up finds it: DAMAGED when the marker names it or its check word fails, else as it stands (R178). -/
def Entry.asFound {α : Type} (named : Bool) (e : Entry α) : Entry α :=
  if named then .damaged
  else match e with
    | .valid _ false => .damaged
    | .empty false => .damaged
    | e => e

/-- What the end of the order `number` does from s to t to the records it orphans at DIV2 and in LABEL (R95, R143): a
LABELLED one is REJECTED with ORDER_ENDED; the one that waits for its serial is given to another live order with a line for
its product, or is REJECTED so, with the label unit idle. -/
def State.orphansDecided (number : Nat) (s t : State) : Prop :=
  ∀ m p, s.pallet m = some p → p.assignment.map (·.order) = some number →
    let rejected : Prop := ∃ q, t.pallet m = some q ∧ q.state = .rejected ∧ .orderEnded ∈ q.reasons ∧ q.serial = p.serial
    let fits (o : Order) : Prop := o ∈ s.obk.orders ∧ o.number ≠ number ∧ o.state.live = true ∧
      ∃ g, p.tag = some g ∧ (∀ k, g.order = some k → o.number = k) ∧
        ∃ l ∈ o.lines, l.product = g.product ∧ l.assigned < l.ordered
    (p.state = .labelled → s.occupant .div2 = some m → rejected ∧ t.znc.laneWait = .stopped) ∧
    (p.state = .labelled → s.occupant .label = some m → s.lbu.track = none → rejected) ∧
    (p.state = .labelling → s.lbu.state = .waitSerial → s.lbu.track = some m →
      ((∃ o, fits o) → t.lbu = s.lbu ∧ ∃ a, a.order ≠ number ∧
        t.pallet m = some { p with assignment := some a, orphaned := false }) ∧
      ((∀ o, ¬ fits o) → rejected ∧ t.lbu = { s.lbu with state := .idle, track := none }))

/-! ### The bodies of requests -/

/-- A number outside its range. -/
def outside (lo hi n : Nat) : Bool := decide (n < lo) || decide (hi < n)

/-- A text of a length outside its bounds, or with a character outside the text set. -/
def badText (lo hi : Nat) (t : Text) : Bool := outside lo hi t.length || !isText t

/-- The layouts of R216 by kind: what a body must be to have every field, nothing after the last, and no text or list longer
than what remains (R187, R213). -/
def bodyLayouts : List (List Byte × (List Byte → Prop)) :=
  [([0x01, 0x03, 0x05, 0x09, 0x0A, 0x0B, 0x0C, 0x2F, 0x36, 0x51], fun b => b.length = 0),
   ([0x02, 0x08, 0x25, 0x26, 0x27, 0x2B, 0x2C, 0x2D, 0x30, 0x31, 0x32, 0x34, 0x35, 0x43], fun b => b.length = 1),
   ([0x07, 0x28, 0x29, 0x2E, 0x41], fun b => b.length = 2), ([0x33], fun b => b.length = 3),
   ([0x04, 0x21, 0x22, 0x38], fun b => b.length = 4), ([0x06], fun b => b.length = 5), ([0x24], fun b => b.length = 6),
   ([0x42, 0x44], fun b => b.length = 9),
   ([0x20], fun b => ∃ head t count lines, head.length = 6 ∧ t.length < 256 ∧ count < 256 ∧ lines.length = 4 * count ∧
      b = head ++ textBytes t ++ u8 count ++ lines),
   ([0x23], fun b => ∃ number t, number.length = 4 ∧ t.length < 256 ∧ b = number ++ textBytes t),
   ([0x37], fun b => ∃ heads, heads.length < 256 ∧ b = u8 heads.length ++ heads),
   ([0x40], fun b => ∃ product t rest, product.length = 2 ∧ t.length < 256 ∧ rest.length = 660 ∧
      b = product ++ textBytes t ++ rest),
   ([0x2A], fun b => ∃ products t rest, products.length = 4 ∧ t.length < 256 ∧ rest.length = 660 ∧
      b = products ++ textBytes t ++ rest),
   ([0x45], fun b => ∃ t, t.length < 256 ∧ b = textBytes t),
   ([0x50], fun b => ∃ t mark, t.length < 256 ∧ mark.length = 4 ∧ b = textBytes t ++ mark)]

/-- The status of a body that fails a check. -/
def Checked.failing {α : Type} : Checked α → Option Status
  | .ok _ => none
  | .error st => some st

/-- The first check of R187 that a body fails, by kind: the checks of each layout's reader. -/
def bodyChecks : List (List Byte × (List Byte → Option Status)) :=
  [([0x02, 0x2B, 0x2C], fun b => Checked.failing (argTrack b)), ([0x25, 0x26, 0x27], fun b => Checked.failing (argLane b)),
   ([0x2D], fun b => Checked.failing (argZone b)),
   ([0x30, 0x31, 0x32, 0x34, 0x35], fun b => Checked.failing (argWrapper b)),
   ([0x08, 0x43], fun b => Checked.failing (argRecipe b)), ([0x04, 0x21, 0x22], fun b => Checked.failing (argOrder b)),
   ([0x07, 0x41], fun b => Checked.failing (argProduct b)), ([0x06], fun b => Checked.failing (argPage b)),
   ([0x20], fun b => Checked.failing (argNewOrder b)), ([0x23], fun b => Checked.failing (argAuthority b)),
   ([0x24], fun b => Checked.failing (argBind b)), ([0x28], fun b => Checked.failing (argExtend b)),
   ([0x29], fun b => Checked.failing (argDecide b)), ([0x2E], fun b => Checked.failing (argConfirm b)),
   ([0x33], fun b => Checked.failing (argFilm b)), ([0x37], fun b => Checked.failing (argHeads b)),
   ([0x38], fun b => Checked.failing (argClock b)), ([0x2A], fun b => Checked.failing (argSupply b)),
   ([0x40], fun b => Checked.failing (argProfile b)), ([0x42], fun b => Checked.failing (argDefineRecipe b)),
   ([0x44], fun b => Checked.failing (argTiming b)), ([0x45], fun b => Checked.failing (argPrefix b)),
   ([0x50], fun b => Checked.failing (argRecover b))]

/-! ### The requests with their commands -/

/-- A request of R216 with the command that stands for its good frame. -/
structure RequestCommand where
  request : Request
  command : Byte → List Byte → Instr

def observeCommands : List RequestCommand :=
  [⟨reqStatus, .status⟩, ⟨reqReadPallet, .readPallet⟩, ⟨reqListTrack, .listTrack⟩, ⟨reqReadOrder, .readOrder⟩,
   ⟨reqListOrders, .listOrders⟩, ⟨reqReadDispatchList, .readDispatchList⟩, ⟨reqReadProfile, .readProfile⟩,
   ⟨reqReadRecipe, .readRecipe⟩, ⟨reqReadLanes, .readLanes⟩, ⟨reqReadZones, .readZones⟩,
   ⟨reqReadWrappers, .readWrappers⟩, ⟨reqReadSettings, .readSettings⟩]

def operateCommands : List RequestCommand :=
  [⟨reqNewOrder, .newOrder⟩, ⟨reqCancelOrder, .cancelOrder⟩, ⟨reqCloseOrder, .closeOrder⟩,
   ⟨reqAuthoriseRelease, .authoriseRelease⟩, ⟨reqBindLane, .bindLane⟩, ⟨reqUnbindLane, .unbindLane⟩,
   ⟨reqPauseLane, .pauseLane⟩, ⟨reqResumeLane, .resumeLane⟩, ⟨reqExtendCutOff, .extendCutOff⟩,
   ⟨reqDecideHold, .decideHold⟩, ⟨reqSupplyProfile, .supplyProfile⟩, ⟨reqRemovePallet, .removePallet⟩,
   ⟨reqReturnPallet, .returnPallet⟩, ⟨reqClearZone, .clearZone⟩, ⟨reqConfirmZone, .confirmZone⟩,
   ⟨reqRestartLine, .restartLine⟩, ⟨reqRestoreWrapper, .restoreWrapper⟩, ⟨reqWrapperOffline, .wrapperOffline⟩,
   ⟨reqWrapperOnline, .wrapperOnline⟩, ⟨reqFilmLoaded, .filmLoaded⟩, ⟨reqRestartWrap, .restartWrap⟩,
   ⟨reqReleaseUnwrapped, .releaseUnwrapped⟩, ⟨reqRestoreLabeller, .restoreLabeller⟩, ⟨reqInhibitHeads, .inhibitHeads⟩,
   ⟨reqSetClock, .setClock⟩]

def configureCommands : List RequestCommand :=
  [⟨reqDefineProfile, .defineProfile⟩, ⟨reqDeleteProfile, .deleteProfile⟩, ⟨reqDefineRecipe, .defineRecipe⟩,
   ⟨reqDeleteRecipe, .deleteRecipe⟩, ⟨reqSetTiming, .setTiming⟩, ⟨reqSetSite, .setSite⟩]

def serviceCommands : List RequestCommand :=
  [⟨reqRecoverSerials, .recoverSerials⟩, ⟨reqResetController, .resetController⟩]

/-- Every request with its command. -/
def requestCommands : List RequestCommand :=
  observeCommands ++ operateCommands ++ configureCommands ++ serviceCommands

end Sys2Proof.Machine
end

