-- ==== Sys2Proof/WellFormed.lean ====
section
/-! DEFINITION. Which commands the link and the field can put to the DL6: the bounds that the frame layout and the
scanner's and readers' messages set. Values inside a body are not checked here: a bad body is a request all the same,
answered by R187. -/

namespace Sys2Proof

/-- A body fits a frame: length counts kind, tag and body and is at most 1,022 (R181). -/
def bodyFits (body : List Byte) : Bool := body.length ≤ 1020

/-- The kind byte names a request: the code ranges of R216. -/
def namesRequest (kind : Byte) : Bool :=
  (0x01 ≤ kind && kind ≤ 0x0C) || (0x20 ≤ kind && kind ≤ 0x38) || (0x40 ≤ kind && kind ≤ 0x45) ||
    (0x50 ≤ kind && kind ≤ 0x51)

/-- A command that can reach the part. -/
def Instr.wf : Instr → Bool
  | .status _ body => bodyFits body
  | .readPallet _ body => bodyFits body
  | .listTrack _ body => bodyFits body
  | .readOrder _ body => bodyFits body
  | .listOrders _ body => bodyFits body
  | .readDispatchList _ body => bodyFits body
  | .readProfile _ body => bodyFits body
  | .readRecipe _ body => bodyFits body
  | .readLanes _ body => bodyFits body
  | .readZones _ body => bodyFits body
  | .readWrappers _ body => bodyFits body
  | .readSettings _ body => bodyFits body
  | .newOrder _ body => bodyFits body
  | .cancelOrder _ body => bodyFits body
  | .closeOrder _ body => bodyFits body
  | .authoriseRelease _ body => bodyFits body
  | .bindLane _ body => bodyFits body
  | .unbindLane _ body => bodyFits body
  | .pauseLane _ body => bodyFits body
  | .resumeLane _ body => bodyFits body
  | .extendCutOff _ body => bodyFits body
  | .decideHold _ body => bodyFits body
  | .supplyProfile _ body => bodyFits body
  | .removePallet _ body => bodyFits body
  | .returnPallet _ body => bodyFits body
  | .clearZone _ body => bodyFits body
  | .confirmZone _ body => bodyFits body
  | .restartLine _ body => bodyFits body
  | .restoreWrapper _ body => bodyFits body
  | .wrapperOffline _ body => bodyFits body
  | .wrapperOnline _ body => bodyFits body
  | .filmLoaded _ body => bodyFits body
  | .restartWrap _ body => bodyFits body
  | .releaseUnwrapped _ body => bodyFits body
  | .restoreLabeller _ body => bodyFits body
  | .inhibitHeads _ body => bodyFits body
  | .setClock _ body => bodyFits body
  | .defineProfile _ body => bodyFits body
  | .deleteProfile _ body => bodyFits body
  | .defineRecipe _ body => bodyFits body
  | .deleteRecipe _ body => bodyFits body
  | .setTiming _ body => bodyFits body
  | .setSite _ body => bodyFits body
  | .recoverSerials _ body => bodyFits body
  | .resetController _ body => bodyFits body
  -- a kind that names no request (R185)
  | .unknownRequestKind kind _ body => !namesRequest kind && bodyFits body
  -- a row carries 16 cells (R56)
  | .scanRow _ cells => cells.length == 16
  -- a reader's text fits a field with a length byte (R212)
  | .tagRead (some t) => t.batch.length ≤ 255
  | .tagRead none => true
  | .readerText _ text => text.length ≤ 255
  | .frameCheckFailed => true
  | .receiveOverrun => true
  | .byteGapTimeout => true
  | .heldFrameTaken => true
  | .frameSent => true
  | .resetRequest => true
  | .powerOn => true
  | .resetInput => true
  | .startUpEnd => true
  | .eyeMade _ => true
  | .eyeCleared _ => true
  | .tagTimerExpiry => true
  | .weightReading _ _ => true
  | .weightTimerExpiry => true
  | .frameBegin => true
  | .frameEnd => true
  | .scanTimerExpiry => true
  | .holdTimerExpiry => true
  | .moveTimerExpiry _ => true
  | .departureTimeout _ => true
  | .laneWaitTimerExpiry => true
  | .minuteTimerExpiry _ => true
  | .truckPresentChange _ _ => true
  | .keySwitchChange _ _ _ => true
  | .chainOpens => true
  | .chainCloses => true
  | .stationAccepted _ _ => true
  | .stationDone _ _ => true
  | .stationFilmBreak _ _ => true
  | .stationFault _ _ => true
  | .stationStatusReport _ _ _ _ => true
  | .acceptanceTimerExpiry _ => true
  | .passTimerExpiry _ => true
  | .headApplied _ => true
  | .headFault _ => true
  | .applyTimerExpiry _ => true
  | .readerNoRead _ => true
  | .readTimerExpiry => true
  | .storeWriteReport _ => true
  | .writeTimerExpiry => true
  | .clockTick => true
  | .powerLoss => true
  | .resetInputReleased => true
  | .linkByteReceived _ _ => true

end Sys2Proof
end

