-- ==== Sys2Proof/Certificates/Slice0/Obligations.lean ====
section
/-! DEFINITION. The statements about the DL6. Each speaks of every state its hypotheses admit; `replied` is the state after
the request's reply is placed and an idle transmitter has chosen, `settle` the start of every move whose conditions hold
with the infeed-ready test, both stated here too. -/

open Sys2Proof Sys2Proof.Machine

/-! ### A step -/

/-- A step runs the command at the front of the queue on the queue's rest (log 1). On an empty queue the block idles
(log 1). -/
def Obligations.StepRunsTheFrontCommandOrIdles : Prop :=
  (∀ (c : Instr) (rest : List Instr) (s : State),
    step { s with pending := c :: rest } = exec c { s with pending := rest }) ∧
  (∀ s : State, s.pending = [] → step s = .next s)

/-- Every command gives a next state in every state, and leaves the queue alone. -/
def Obligations.EveryCommandGoesOn : Prop :=
  ∀ (c : Instr) (s : State), ∃ t, exec c s = .next t ∧ t.pending = s.pending

/-! ### Invariants -/

/-- Every invariant holds right after reset. -/
def Obligations.InvariantsHoldAtReset : Prop :=
  State.reset.linkBounded ∧ State.reset.bookSound ∧ State.reset.serialsSafe ∧ State.reset.interlocked ∧
    State.reset.outputsSafe

/-- Every step keeps the bounds of the reply path, the notice queue, the error count and the job counter. Every step
keeps the order book within 16 records of different numbers. -/
def Obligations.StepKeepsLinkAndBookBounds : Prop :=
  (∀ s t : State, s.linkBounded → step s = .next t → t.linkBounded) ∧
  (∀ s t : State, s.bookSound → step s = .next t → t.bookSound)

/-- Every step keeps the serial numbers below the stored mark. -/
def Obligations.StepKeepsSerialsSafe : Prop :=
  ∀ s t : State, s.serialsSafe → step s = .next t → t.serialsSafe

/-- Every step keeps the line state in agreement with the key, the chain and the reset. Every step from an interlocked
state keeps the outputs off where the line state wants them off. -/
def Obligations.StepKeepsInterlockAndOutputs : Prop :=
  (∀ s t : State, s.interlocked → step s = .next t → t.interlocked) ∧
  (∀ s t : State, s.interlocked → s.outputsSafe → step s = .next t → t.outputsSafe)

/-! ### Resets and start-up -/

/-- At a power-on, a reset input, a reset request that is due and a loss of the supply, the track, the order book, the
check unit, the zones' route, lane wait and splitter, the wrappers, the label unit, the lanes, the job slots and the
link return to the values of R24, R50, R78, R105, R128, R146, R163, R178 and R199, and the outputs go off with the
diverters left (R208). A part that is not held in reset has sent each station its status query as command 1 (R111,
R128). What a wrapper's state and load are before the end of start-up is the model's choice (log 12), and that the
query writes the last-sent time is read from R111 (log 37). -/
def Obligations.EveryResetLosesTheState : Prop :=
  ∀ (c : Instr) (s : State),
    (c = .powerOn ∨ (c = .resetInput ∧ s.lsv.resetInput = false) ∨ c = .powerLoss ∨
      (c = .resetRequest ∧ s.drained = true ∧ s.lku.sending = none ∧ s.inReset = false)) →
    ∃ t, exec c s = .next t ∧
      (∀ n, t.pallet n = none) ∧ t.trt.offLine = [] ∧ t.trt.checkSeq = 0 ∧ t.trt.tagTimer = .stopped ∧
      t.obk.orders = [] ∧ t.obk.creationSeq = 0 ∧
      t.cku.state = .idle ∧ t.cku.track = none ∧ t.cku.weight = .off ∧ t.cku.frame = .off ∧
      t.cku.weightTimer = .stopped ∧ t.cku.scanTimer = .stopped ∧ t.cku.snapshot = none ∧ t.cku.rows = 0 ∧
      t.cku.counts = ⟨0, 0, 0, 0⟩ ∧ t.cku.recipe = none ∧ t.cku.holdTrack = none ∧ t.cku.holdTimer = .stopped ∧
      t.cku.holdRecipe = none ∧ t.cku.headInhibit = ⟨false, false, false, false⟩ ∧ t.cku.holdEnded = [] ∧
      t.cku.waiters = [] ∧
      (∀ n, (t.lane n).state = .closed ∧ (t.lane n).order = none ∧ (t.lane n).remaining = 0 ∧
        (t.lane n).minute = .stopped ∧ (t.lane n).warned = false ∧ (t.lane n).endCause = none) ∧
      t.lku.receiver = .hunt ∧ t.lku.gapTimer = false ∧ t.lku.buffer = none ∧ t.lku.errors = 0 ∧ t.lku.replies = [] ∧
      t.owedCount = 0 ∧ t.lku.job = 0 ∧ t.lku.queries = [] ∧
      t.lsv.line = .powerUp ∧ t.lsv.clock = 0 ∧ t.lsv.unset = true ∧ t.lsv.resetPending = false ∧
      (∀ z, (t.zone z).drive = false) ∧ (∀ n : Lane, t.znc.gates[n] = false) ∧ t.znc.infeedReady = false ∧
      t.znc.route = none ∧ t.znc.laneWait = .stopped ∧ t.znc.splitter = .b ∧
      t.znc.div1Out = s.znc.div1Out ∧ t.znc.div2Out = s.znc.div2Out ∧ t.pins = s.pins ∧ t.pending = s.pending ∧
      (∀ w, t.wrapper w = {
        state := .idle, load := .none, pauseCause := none, faultCause := none, sheetDone := false, cutDone := false,
        abortPending := false, film := 0, lowFilmSent := false, dischargeUnderWay := false, abortCut := false,
        owed := none, found := none
        channel := if t.inReset then ⟨.idle, none, 0, 0, false, .stopped, ⟨0, true⟩⟩
          else ⟨.sent, some ⟨.statusQuery, 1⟩, 1, 0, true, .stopped, ⟨0, true⟩⟩ }) ∧
      t.lbu.state = .idle ∧ t.lbu.track = none ∧ t.lbu.suspended = false ∧ t.lbu.content = none ∧
      (∀ f, t.faceStep f = .unset ∧ t.lbu.applyTimers.face f = .stopped) ∧ t.lbu.readTimer = .stopped ∧
      t.lbu.inFlight = false ∧ t.lbu.exhausted = false ∧
      t.sdu.host = .empty ∧ t.sdu.reservation = .empty ∧ t.sdu.writeTimer = false ∧
      (t.inReset = true ∨ t.sdu.damagedEntries = [] →
        t.lku.notices = [] ∧ t.lku.gap = false ∧ t.lku.sending = none)

/-- The part stays in reset, with the kind of the reset written, while the supply is out of range or the reset input
is asserted; a power-on ends it when the input is not asserted (R208; the kind kept by a loss of the supply, and the
kind POWER_ON written while the input is asserted, are the model's choice, log 31). Power-up begins when the reset
input is released with the supply in its range: the stored entries are verified and the status query is sent to each
idle station as the next command of its channel, with its acceptance timer running (R111, R128, R178, R208, R210; that
the query writes the last-sent time and the resend count is read from R111, logs 37, 49). The verification marks DAMAGED
the entry that the marker names and each whose check word fails, and clears the marker; a DAMAGED profile slot keeps its
key when that lies within 1 to 65535, no VALID slot holds it and no lower DAMAGED slot reads it, else its key is none; the
values in force are those of a VALID timing entry, else the defaults; copies and slots stay (R166, R169, R178). A STORE
notice DAMAGED is made for every DAMAGED entry, of which the transmitter takes the first (R178, R194, R195, R196; that one
is made for every DAMAGED entry, in the order site, timing, profile slots, recipes, is read from the rules, log 17). -/
def Obligations.ResetIsHeldAndEnds : Prop :=
  (∀ s : State,
    (∃ t, exec .powerOn s = .next t ∧ t.lsv.resetKind = .powerOn ∧ t.lsv.supply = true ∧
      t.inReset = s.lsv.resetInput) ∧
    (∃ t, exec .powerLoss s = .next t ∧ t.lsv.supply = false ∧ t.inReset = true) ∧
    (s.lsv.resetInput = false → s.lsv.supply = true →
      ∃ t, exec .resetInput s = .next t ∧ t.lsv.resetKind = .resetInput ∧ t.lsv.resetInput = true ∧
        t.inReset = true) ∧
    (s.lsv.resetInput = true → s.lsv.supply = true → ∃ t, exec .resetInputReleased s = .next t ∧ t.inReset = false) ∧
    (s.drained = true → s.lku.sending = none → s.inReset = false →
      ∃ t, exec .resetRequest s = .next t ∧ t.lsv.resetKind = .resetRequest ∧ t.inReset = false)) ∧
  (∀ s : State, s.lsv.resetInput = true → s.lsv.supply = true →
    (∀ w, (s.wrapper w).channel.state = .idle) →
    ∃ t, exec .resetInputReleased s = .next t ∧ t.lsv = { s.lsv with resetInput := false } ∧ t.sdu = s.sdu.verify ∧
      (∀ w, t.wrapper w = { s.wrapper w with
          channel := { (s.wrapper w).channel with
            state := .sent, command := some ⟨.statusQuery, (s.wrapper w).channel.last + 1⟩,
            last := (s.wrapper w).channel.last + 1, resend := 0, acceptance := true, lastSent := s.now } } ∧
        t.ports.station.wrapper w = some ⟨.statusQuery, (s.wrapper w).channel.last + 1, 0, none⟩) ∧
      s.onlyChanged t [.supervisor, .store, .wrappers, .ports, .link] ∧
      let told : List Notice := (s.sdu.verify.damagedEntries.mapIdx fun i id =>
        ⟨.store .damaged id (match id with | .profile k => s.sdu.verify.profiles[k].key | _ => none) none 0 0, s.now,
          s.lku.gap && i == 0⟩).take 32
      (s.lku.notices = [] → s.lku.replies = [] → s.lku.queries = [] → s.lku.sending = none → s.lsv.resetPending = false →
        t.lku.sending = told.head?.map OutFrame.notice ∧ t.lku.notices = told.tail)) ∧
  (∀ d : Store, d.damagedEntries =
    (if d.site = .damaged then [.site] else []) ++ (if d.timing = .damaged then [.timing] else []) ++
      ((List.finRange 64).filter fun i => decide (d.profiles[i].entry = .damaged)).map EntryId.profile ++
      ((List.finRange 16).filter fun i => decide (d.recipes[i] = .damaged)).map EntryId.recipe) ∧
  (∀ d : Store,
    let v := d.verify
    v.site = d.site.asFound (decide (d.marker = some .site)) ∧
    v.timing = d.timing.asFound (decide (d.marker = some .timing)) ∧
    (∀ i : Fin 64, v.profiles[i].entry = d.profiles[i].entry.asFound (decide (d.marker = some (.profile i)))) ∧
    (∀ i : Fin 16, v.recipes[i] = d.recipes[i].asFound (decide (d.marker = some (.recipe i)))) ∧
    (∀ i : Fin 64, v.profiles[i].entry ≠ .damaged → v.profiles[i].key = d.profiles[i].key) ∧
    (∀ i : Fin 64, v.profiles[i].entry = .damaged → d.profiles[i].key = none → v.profiles[i].key = none) ∧
    (∀ (i : Fin 64) k, v.profiles[i].entry = .damaged → d.profiles[i].key = some k → v.profiles[i].key =
      if 1 ≤ k ∧ k ≤ 65535 ∧ ∀ j : Fin 64, d.profiles[j].key = some k →
        v.profiles[j].entry.state ≠ .valid ∧ (v.profiles[j].entry = .damaged → i.val ≤ j.val) then some k else none) ∧
    v.inForce = (match v.timing with | .valid t _ => t | _ => ⟨3, 8, 8, 15, 12, 60, 10, 90⟩) ∧ v.marker = none ∧
    v.copies = d.copies ∧ v.host = d.host ∧ v.reservation = d.reservation ∧ v.writeTimer = d.writeTimer ∧
    v.started = d.started)

/-- At the end of start-up the line is STOPPED whatever the inputs read; the key position, the chain, every
truck-present input, every zone and every wrapper are set from the inputs and the station's answers, the serial range
from the site entry, and the last notice made is START with that state (R105, R128, R146, R163, R210, R211). That
START comes after the notices of the low-water test is the model's choice (log 29), that it counts every DAMAGED
entry is read from the rule (log 17), and that prefix held is clear for a DAMAGED site entry is the model's choice
(log 47). -/
def Obligations.StartUpEnds : Prop :=
  ∀ s : State, s.lsv.line = .powerUp → s.inReset = false → (∀ w, (s.wrapper w).found.isSome = true) →
    ∃ t u : State, exec .startUpEnd s = .next t ∧ t = (u.notify u.startEvent).pump ∧
      u.lsv = { s.lsv with
        line := .stopped, key := keyReading s.pins.keyRun s.pins.keySetup s.pins.keyService,
        chainOpen := s.pins.chainOpen } ∧
      (∀ n, u.lane n = { s.lane n with truck := s.pins.trucks[n] }) ∧
      (∀ w, ((s.wrapper w).found = some (.report true false) →
            (u.wrapper w).state = .idle ∧ (u.wrapper w).load = .none) ∧
        ((s.wrapper w).found = some (.report true true) →
            (u.wrapper w).state = .stopped ∧ (u.wrapper w).load = .untracked) ∧
        (∀ loaded, (s.wrapper w).found = some (.report false loaded) →
            (u.wrapper w).state = .faulted ∧ (u.wrapper w).faultCause = some .unitFault ∧
            (u.wrapper w).load = (if loaded then .untracked else .none)) ∧
        ((s.wrapper w).found = some .silent →
            (u.wrapper w).state = .faulted ∧ (u.wrapper w).faultCause = some .noResponse ∧
            (u.wrapper w).load = .none)) ∧
      (∀ z, (u.zone z).eye = s.pins.eyes[z.idx] ∧ (u.zone z).record = none ∧ (u.zone z).partner = none ∧
        (u.zone z).interrupted = false ∧ (u.zone z).drive = false ∧ (u.zone z).moveTimer = .stopped ∧
        (u.zone z).state = (if s.pins.eyes[z.idx] ||
            (match z with | .wrap w => (u.wrapper w).load == .untracked | _ => false) then .untracked else .free)) ∧
      (∀ c, s.sdu.site = .valid c true → c.sitePrefix.isSome = true →
        u.lbu.next = c.mark ∧ u.lbu.reservedEnd = c.mark ∧ u.lbu.block = none) ∧
      (∀ m, s.sdu.site = .valid ⟨none, m⟩ true →
        u.lbu.next = 0 ∧ u.lbu.reservedEnd = 0 ∧ u.lbu.block = some .noSite) ∧
      (s.sdu.site = .damaged → u.lbu.next = 0 ∧ u.lbu.reservedEnd = 0 ∧ u.lbu.block = some .siteDamaged) ∧
      s.onlyChanged t [.zones, .wrappers, .lanes, .label, .store, .link, .supervisor]

/-- A second of the line clock: it counts on, 4,294,967,295 steps to 0, the flag stays; every running timer kept in
seconds loses one second, and nothing else changes (R206; when a timer of that kind expires is the model's choice,
log 7). -/
def Obligations.ClockTickCounts : Prop :=
  ∀ s : State, s.inReset = false →
    ∃ t, exec .clockTick s = .next t ∧ t.lsv = { s.lsv with clock := s.lsv.clock + 1 } ∧
      t.trt = { s.trt with tagTimer := s.trt.tagTimer.tick } ∧
      t.cku = { s.cku with
        weightTimer := s.cku.weightTimer.tick, scanTimer := s.cku.scanTimer.tick,
        holdTimer := s.cku.holdTimer.tick } ∧
      (∀ z, t.zone z = { s.zone z with moveTimer := (s.zone z).moveTimer.tick }) ∧
      t.znc.laneWait = s.znc.laneWait.tick ∧ t.znc.route = s.znc.route ∧ t.znc.splitter = s.znc.splitter ∧
      t.znc.div1Out = s.znc.div1Out ∧ t.znc.div2Out = s.znc.div2Out ∧ t.znc.routeOut = s.znc.routeOut ∧
      t.znc.gates = s.znc.gates ∧ t.znc.infeedReady = s.znc.infeedReady ∧
      (∀ w, t.wrapper w = { s.wrapper w with
        channel := { (s.wrapper w).channel with pass := (s.wrapper w).channel.pass.tick } }) ∧
      t.lbu = { s.lbu with
        applyTimers := ⟨s.lbu.applyTimers.fst.tick, s.lbu.applyTimers.snd.tick⟩, readTimer := s.lbu.readTimer.tick } ∧
      (∀ n, t.lane n = { s.lane n with minute := (s.lane n).minute.tick }) ∧
      s.onlyChanged t [.supervisor, .track, .check, .zones, .wrappers, .label, .lanes]

/-! ### The link -/

/-- What the reply to a request leaves: the reply stands last in the reply path and an idle transmitter has taken the
oldest frame of it; nothing else changes (R188, R196). The making of a notice: with fewer than 32 in the queue it is
placed at the end with the line clock and the GAP mark of the gap flag, which is cleared; with 32 it is discarded
and the gap flag set (R194, R195). When the frame being sent ends and no frame is held, the transmitter takes the
oldest frame of the reply path, else the oldest unsent query, whose sent mark it sets, else the head of the notice
queue, else it is idle; with a reset pending and nothing left to send before it, it begins none (R193, R196, R197;
the last by log 5). -/
def Obligations.FramesWaitAndLeaveInOrder : Prop :=
  (∀ (s : State) (tag kind : Byte) (st : Status) (data : List Byte), s.inReset = false →
    s.onlyChanged (s.replied tag kind st data) [.link] ∧
    (∀ f, s.lku.sending = some f → (s.replied tag kind st data).lku =
      { s.lku with replies := s.lku.replies ++ [.reply tag kind st data] }) ∧
    (∀ a rest, s.lku.sending = none → s.lku.replies = a :: rest → (s.replied tag kind st data).lku =
      { s.lku with replies := rest ++ [.reply tag kind st data], sending := some (.answer a) }) ∧
    (s.lku.sending = none → s.lku.replies = [] → (s.replied tag kind st data).lku =
      { s.lku with sending := some (.answer (.reply tag kind st data)) })) ∧
  (∀ (s : State) (e : Event), s.onlyChanged (s.notify e) [.link] ∧
    (s.lku.notices.length < 32 → (s.notify e).lku =
      { s.lku with notices := s.lku.notices ++ [⟨e, ⟨s.lsv.clock, s.lsv.unset⟩, s.lku.gap⟩], gap := false }) ∧
    (32 ≤ s.lku.notices.length → (s.notify e).lku = { s.lku with gap := true })) ∧
  (∀ (s : State) (f : OutFrame), s.inReset = false → s.lku.sending = some f → s.lku.buffer = none →
    ∃ t, exec .frameSent s = .next t ∧ s.onlyChanged t [.link] ∧
      (∀ a rest, s.lku.replies = a :: rest → t.lku = { s.lku with replies := rest, sending := some (.answer a) }) ∧
      (s.lku.replies = [] → s.lsv.resetPending = false →
        (∀ earlier q later, s.lku.queries = earlier ++ q :: later → (∀ p ∈ earlier, p.sent = true) → q.sent = false →
          t.lku = { s.lku with
            queries := earlier ++ { q with sent := true } :: later, sending := some (.query q) }) ∧
        (∀ n rest, (∀ q ∈ s.lku.queries, q.sent = true) → s.lku.notices = n :: rest →
          t.lku = { s.lku with notices := rest, sending := some (.notice n) }) ∧
        ((∀ q ∈ s.lku.queries, q.sent = true) → s.lku.notices = [] → t.lku = { s.lku with sending := none })) ∧
      (s.lku.replies = [] → s.lsv.resetPending = true → s.owedCount = 0 → t.lku = { s.lku with sending := none }))

/-- The kind byte names a request exactly for the kinds of the table. A frame of any other kind is answered MALFORMED
with its own tag and kind; in POWER_UP every request is answered BUSY whatever its body and the key (R185). -/
def Obligations.UnknownKindAndPowerUp : Prop :=
  (∀ kind : Byte, namesRequest kind = true ↔ ∃ rc ∈ requestCommands, rc.request.kind = kind) ∧
  (∀ (s : State) (kind tag : Byte) (body : List Byte), namesRequest kind = false → s.inReset = false →
    s.taking = true → s.lsv.resetPending = false → s.lku.buffer = none → s.replyCount < 8 →
    exec (.unknownRequestKind kind tag body) s = .next (s.replied tag kind .malformed [])) ∧
  ∀ (s : State) (tag : Byte) (body : List Byte), s.inReset = false → s.lsv.line = .powerUp →
    s.lsv.resetPending = false → s.lku.buffer = none → s.replyCount < 8 →
    ∀ rc ∈ requestCommands, exec (rc.command tag body) s = .next (s.replied tag rc.request.kind .busy [])

/-- A frame whose kind names no request is answered MALFORMED in POWER_UP too, which is the model's choice (log 25). A
request whose operands fail the structure or field checks is answered with the status of the first that fails, and
changes nothing (R187): any body but the empty one of the requests without argument, and for every request any body
that is not of its layout, is MALFORMED (R213, R216); the status of the first field that fails is what BodiesReadBack
gives for that request's body (R187, R213). A good frame while the
receive buffer is empty and 8 replies wait or are owed is held; one that completes while a frame is held is
discarded and counted; one that completes with a reset pending is discarded (R184, R183, R197; that the last is not
counted is the model's choice, log 39). The held frame is taken as soon as fewer than 8 replies wait or are owed:
what happens is what its own request's frame would do with the buffer empty (R184). -/
def Obligations.FramesMalformedHeldOrDiscarded : Prop :=
  (∀ (s : State) (kind tag : Byte) (body : List Byte), namesRequest kind = false → s.inReset = false →
    s.lsv.line = .powerUp → s.lsv.resetPending = false → s.lku.buffer = none → s.replyCount < 8 →
    exec (.unknownRequestKind kind tag body) s = .next (s.replied tag kind .malformed [])) ∧
  (∀ (s : State) (tag b : Byte) (rest : List Byte), ∀ rc ∈ requestCommands,
    rc.request.kind ∈ [0x01, 0x03, 0x05, 0x09, 0x0A, 0x0B, 0x0C, 0x2F, 0x36, 0x51] → s.hears rc.request = true →
    exec (rc.command tag (b :: rest)) s = .next (s.replied tag rc.request.kind .malformed [])) ∧
  (∀ (s : State) (tag : Byte) (body : List Byte), ∀ rc ∈ requestCommands, s.hears rc.request = true →
    (∀ layout ∈ bodyLayouts, rc.request.kind ∈ layout.1 → ¬ layout.2 body →
      exec (rc.command tag body) s = .next (s.replied tag rc.request.kind .malformed [])) ∧
    ∀ check ∈ bodyChecks, rc.request.kind ∈ check.1 → ∀ st, check.2 body = some st →
      exec (rc.command tag body) s = .next (s.replied tag rc.request.kind st [])) ∧
  (∀ (s : State) (tag : Byte) (body : List Byte), s.inReset = false → ∀ rc ∈ requestCommands,
    (s.lsv.resetPending = false → s.lku.buffer = none → 8 ≤ s.replyCount → exec (rc.command tag body) s =
      .next (s.modLku fun l => { l with buffer := some ⟨rc.request.kind, tag, body⟩ }).pump) ∧
    (s.lsv.resetPending = false → s.lku.buffer.isSome = true → exec (rc.command tag body) s =
      .next (s.modLku fun l => { l with errors := if l.errors < 65535 then l.errors + 1 else l.errors }).pump) ∧
    (s.lsv.resetPending = true → exec (rc.command tag body) s = .next s.pump)) ∧
  (∀ (s : State) (tag : Byte) (body : List Byte), s.inReset = false → s.lsv.resetPending = false → s.replyCount < 8 →
    ∀ rc ∈ requestCommands, s.lku.buffer = some ⟨rc.request.kind, tag, body⟩ →
      let emptied := s.modLku fun l => { l with buffer := none }
      exec .heldFrameTaken s = .next (emptied.receive rc.request tag body) ∧
        exec (rc.command tag body) emptied = .next (emptied.receive rc.request tag body))

/-- The class check: the classes of the table by key position, NONE as SERVICE; a request whose class is not admitted is
answered NOT_PERMITTED whatever its body, and nothing else changes (R186). -/
def Obligations.ClassDecidesFirst : Prop :=
  (∀ rc ∈ observeCommands, ∀ key, rc.request.cls.admitted key = true) ∧
  (∀ rc ∈ operateCommands, ∀ key, rc.request.cls.admitted key = true ↔ key = .run ∨ key = .setup) ∧
  (∀ rc ∈ configureCommands, ∀ key, rc.request.cls.admitted key = true ↔ key = .setup) ∧
  (∀ rc ∈ serviceCommands, ∀ key, rc.request.cls.admitted key = true ↔ key = .service ∨ key = .none) ∧
  ∀ (s : State) (tag : Byte) (body : List Byte), s.inReset = false → s.taking = true → s.lsv.resetPending = false →
    s.lku.buffer = none → s.replyCount < 8 →
    ∀ rc ∈ requestCommands, rc.request.cls.admitted s.lsv.key = false →
      exec (rc.command tag body) s = .next (s.replied tag rc.request.kind .notPermitted [])

/-- Each discarded frame counts one, up to 65,535, and takes the receiver to HUNT with the gap timer stopped: a frame
that fails its check, a byte gap while the timer runs, a frame that completes while one is held (R182, R183, R184).
One byte of the line, in each state of the receiver, short of the end of a frame (R182, R183). -/
def Obligations.ReceiverTakesBytesAndCountsDiscards : Prop :=
  (∀ (c : Instr) (s : State), s.inReset = false →
    (c = .frameCheckFailed ∨ (c = .byteGapTimeout ∧ s.lku.gapTimer = true) ∨
      (c = .receiveOverrun ∧ s.lku.buffer.isSome = true)) →
    exec c s = .next (s.modLku fun l => { l with
      receiver := .hunt, gapTimer := false, errors := if l.errors < 65535 then l.errors + 1 else l.errors }).pump) ∧
  (∀ (s : State) (b : Byte) (framingError : Bool), s.inReset = false →
    let goes (r : Receiver) : State := (s.modLku fun l => { l with receiver := r, gapTimer := true }).pump
    let dropped : State := (s.modLku fun l => { l with
      receiver := .hunt, gapTimer := false, errors := if l.errors < 65535 then l.errors + 1 else l.errors }).pump
    (s.lku.receiver = .hunt → exec (.linkByteReceived b framingError) s =
      .next (if b = 0x5A ∧ framingError = false then goes (.length none) else s.pump)) ∧
    (s.lku.receiver ≠ .hunt → framingError = true → exec (.linkByteReceived b framingError) s = .next dropped) ∧
    (s.lku.receiver = .length none → framingError = false →
      exec (.linkByteReceived b framingError) s = .next (goes (.length (some b)))) ∧
    (∀ low, s.lku.receiver = .length (some low) → framingError = false →
      exec (.linkByteReceived b framingError) s = .next
        (if 2 ≤ low.toNat + 256 * b.toNat ∧ low.toNat + 256 * b.toNat ≤ 1022
          then goes (.content (low.toNat + 256 * b.toNat) []) else dropped)) ∧
    (∀ n got, s.lku.receiver = .content n got → framingError = false →
      exec (.linkByteReceived b framingError) s = .next
        (goes (if got.length + 1 < n then .content n (got ++ [b]) else .check n (got ++ [b]) none))) ∧
    (∀ n got, s.lku.receiver = .check n got none → framingError = false →
      exec (.linkByteReceived b framingError) s = .next (goes (.check n got (some b)))) ∧
    (∀ n got low, s.lku.receiver = .check n got (some low) → framingError = false →
      (crc (u16 n ++ got)).toNat ≠ low.toNat + 256 * b.toNat →
      exec (.linkByteReceived b framingError) s = .next dropped))

/-- A request's frame sent byte by byte, lead, length, kind, tag, body and check, to a receiver in HUNT of a part whose
transmitter has nothing to begin does exactly what the command of its good frame does, for every request, tag and
body that fits a frame (R181, R182). -/
def Obligations.FrameBytesMakeTheRequest : Prop :=
  ∀ (s : State) (tag : Byte) (body : List Byte), s.lku.receiver = .hunt → s.lku.gapTimer = false → s.pump = s →
    body.length ≤ 1020 → ∀ rc ∈ requestCommands,
      State.afterAll ((frameBytes rc.request.kind tag body).map fun b => .linkByteReceived b false) s =
        exec (rc.command tag body) s

/-! ### OBSERVE requests -/

/-- The seven reports: with no argument each is answered OK with its report of the state, and nothing else changes, but
that READ SETTINGS first reads the site and the timing entry: one whose check word fails becomes DAMAGED with its
STORE notice, the site entry with the issue block SITE_DAMAGED and a waiting reservation ended FAILED (R198, R23,
R48, R162, R104, R127, R135, R165, R172, R180; that the notice of the latter names the site entry is the model's
choice, log 48). That STATUS checks no entry and READ SETTINGS no recipe is read from the rules (log 27). READ
PALLET, READ ORDER and READ DISPATCH LIST: OK with the report of the record named, NOT_FOUND when there is none,
OUT_OF_RANGE for a track number, order number or position outside its range; nothing else changes (R22, R47, R49).
READ PROFILE and READ RECIPE: a VALID entry whose check word holds is answered OK with its number, its contents and
its check word; no entry is NOT_FOUND; a DAMAGED one is STORE_FAULT, and a VALID one whose check word fails becomes
DAMAGED with its STORE notice and is STORE_FAULT (R165, R179; the check word is a free value, log 13). The bytes of
each report, field by field, with their lengths, and the codes of the code fields (R212, R215, R218, R219; a DAMAGED
site entry is sent without prefix and mark, log 27, and a release hold with no condition unmet as 0, log 28). -/
def Obligations.ObserveRequestsReport : Prop :=
  (∀ (s : State) (tag : Byte), s.hears reqStatus = true →
    exec (.status tag []) s = .next (s.replied tag 0x01 .ok s.statusReport) ∧
    exec (.listTrack tag []) s = .next (s.replied tag 0x03 .ok s.trackSummary) ∧
    exec (.listOrders tag []) s = .next (s.replied tag 0x05 .ok s.obk.report) ∧
    exec (.readLanes tag []) s = .next (s.replied tag 0x09 .ok s.lanesReport) ∧
    exec (.readZones tag []) s = .next (s.replied tag 0x0A .ok s.zonesReport) ∧
    exec (.readWrappers tag []) s = .next (s.replied tag 0x0B .ok s.wrappersReport) ∧
    (let site := match s.sdu.site with
        | .valid _ false =>
          let marked := ((s.modSdu fun d => { d with site := .damaged }).notify
            (.store .damaged .site none none 0 0)).modLbu fun l => { l with block := some .siteDamaged }
          if s.sdu.reservation = ReservationSlot.waiting
          then ((marked.modSdu fun d => { d with reservation := .empty }).modLbu fun l => { l with
            inFlight := false }).notify (.store .reservationFailed .site none none 0 0)
          else marked
        | _ => s
      let read := match s.sdu.timing with
        | .valid _ false => (site.modSdu fun d => { d with timing := .damaged }).notify
            (.store .damaged .timing none none 0 0)
        | _ => site
      exec (.readSettings tag []) s = .next (read.replied tag 0x0C .ok read.settingsReport))) ∧
  (∀ (s : State) (tag : Byte), s.hears reqReadPallet = true →
    (∀ n : TrackNo, exec (.readPallet tag (u8 n.number)) s = .next (match s.pallet n with
      | some p => s.replied tag 0x02 .ok (s.palletReport n p)
      | none => s.replied tag 0x02 .notFound [])) ∧
    (∀ b : Byte, b.toNat = 0 ∨ 24 < b.toNat →
      exec (.readPallet tag [b]) s = .next (s.replied tag 0x02 .outOfRange [])) ∧
    (∀ number, 1 ≤ number → number ≤ 999999 → exec (.readOrder tag (u32 number)) s = .next (match s.order number with
      | some o => s.replied tag 0x04 .ok o.report
      | none => s.replied tag 0x04 .notFound [])) ∧
    (∀ number, number = 0 ∨ 999999 < number → number < 4294967296 →
      exec (.readOrder tag (u32 number)) s = .next (s.replied tag 0x04 .outOfRange [])) ∧
    (∀ number start, 1 ≤ number → number ≤ 999999 → 1 ≤ start → start ≤ 60 →
      exec (.readDispatchList tag (u32 number ++ u8 start)) s = .next (match s.order number with
        | some o => s.replied tag 0x06 .ok (u32 o.number ++ u8 o.dispatch.length ++ u32 o.manifest.toNat ++
            counted DispatchEntry.bytes ((o.dispatch.drop (start - 1)).take 20))
        | none => s.replied tag 0x06 .notFound [])) ∧
    (∀ number start, number < 4294967296 → start < 256 →
      number = 0 ∨ 999999 < number ∨ start = 0 ∨ 60 < start →
      exec (.readDispatchList tag (u32 number ++ u8 start)) s = .next (s.replied tag 0x06 .outOfRange []))) ∧
  (∀ (s : State) (tag : Byte), s.hears reqReadProfile = true →
    (∀ product i p, 1 ≤ product → product ≤ 65535 → s.sdu.slotOf product = some i →
      (s.sdu.profiles[i].entry = .valid p true → exec (.readProfile tag (u16 product)) s =
        .next (s.replied tag 0x07 .ok (u8 (i.val + 1) ++ p.bytes ++ wordBytes (Config.checkWord p.bytes)))) ∧
      (s.sdu.profiles[i].entry = .damaged → exec (.readProfile tag (u16 product)) s =
        .next (s.replied tag 0x07 .storeFault [])) ∧
      (s.sdu.profiles[i].entry = .valid p false → exec (.readProfile tag (u16 product)) s =
        .next (((s.modSdu fun d => { d with profiles := d.profiles.set i { d.profiles[i] with entry := .damaged } }).notify
          (.store .damaged (.profile i) s.sdu.profiles[i].key none 0 0)).replied tag 0x07 .storeFault []))) ∧
    (∀ product, 1 ≤ product → product ≤ 65535 → s.sdu.slotOf product = none →
      exec (.readProfile tag (u16 product)) s = .next (s.replied tag 0x07 .notFound [])) ∧
    (∀ (i : Fin 16) r,
      (s.sdu.recipes[i] = .valid r true → exec (.readRecipe tag (u8 (i.val + 1))) s =
        .next (s.replied tag 0x08 .ok (u8 (i.val + 1) ++ r.bytes ++ wordBytes (Config.checkWord r.bytes)))) ∧
      ((∃ holds, s.sdu.recipes[i] = .empty holds) → exec (.readRecipe tag (u8 (i.val + 1))) s =
        .next (s.replied tag 0x08 .notFound [])) ∧
      (s.sdu.recipes[i] = .damaged → exec (.readRecipe tag (u8 (i.val + 1))) s =
        .next (s.replied tag 0x08 .storeFault [])) ∧
      (s.sdu.recipes[i] = .valid r false → exec (.readRecipe tag (u8 (i.val + 1))) s =
        .next (((s.modSdu fun d => { d with recipes := d.recipes.set i .damaged }).notify
          (.store .damaged (.recipe i) none none 0 0)).replied tag 0x08 .storeFault [])))) ∧
  (∀ (s : State) (n : TrackNo) (p : Pallet), s.palletReport n p =
      u8 n.number ++ u8 p.state.code ++ u8 ((p.location.map Zone.code).getD 0) ++
      u8 (match s.trt.offLine.findIdx? (· == n) with | some i => i + 1 | none => 0) ++ u8 p.attempts ++
      u8 ((if p.tag.isSome then 1 else 0) + (if p.orphaned then 2 else 0) + (if p.checkSeq.isSome then 4 else 0) +
        (match p.profile with
          | some r => 8 + (if r.degraded then 16 else 0) + (if r.part then 32 else 0)
          | none => 0) + (if p.recipeMissing then 64 else 0)) ++
      u32 ((p.checkSeq.map BitVec.toNat).getD 0) ++ u16 (p.gross.getD 0xFFFF) ++
      u16 ((p.profile.map (·.overs)).getD 0) ++ u16 ((p.profile.map (·.unders)).getD 0) ++
      u16 ((p.profile.map (·.invalid)).getD 0) ++ u16 ((p.profile.map (·.highest)).getD 0) ++
      u32 ((p.assignment.map (·.order)).getD 0) ++ u8 ((p.assignment.map (·.line)).getD 0) ++
      (match p.plan with
        | some r => u16 r.prestretch ++ u8 r.bottom ++ u8 r.up ++ flagByte r.sheet ++ u8 r.top ++ u8 r.down ++ u8 r.film
        | none => [0, 0, 0, 0, 0, 0, 0, 0]) ++
      u8 ((p.wrapper.map Wrapper.number).getD 0) ++ u8 p.passesDone ++ u32 (p.serial.getD 0) ++
      u8 p.faces.fst.result.code ++ u8 p.faces.fst.attempts ++ u8 p.faces.snd.result.code ++ u8 p.faces.snd.attempts ++
      timeBytes (some p.created) ++ timeBytes p.verdictTime ++ timeBytes p.labelledTime ++
      (match p.tag with
        | some t => u16 t.product ++ u16 t.units ++ u32 (t.order.getD 0) ++ u16 t.bestBefore ++ textBytes t.batch
        | none => u16 0 ++ u16 0 ++ u32 0 ++ u16 0 ++ textBytes []) ++
      u8 p.reasons.length ++ p.reasons.map (fun r => BitVec.ofNat 8 r.code) ∧
    (s.palletReport n p).length = 70 + (match p.tag with | some t => t.batch.length | none => 0) + p.reasons.length) ∧
  (∀ s : State,
    let held := (List.finRange 24).filter fun n => (s.pallet n).isSome
    s.trackSummary = u8 held.length ++ u8 (24 - held.length) ++ u8 s.trt.offLine.length ++ u32 s.trt.checkSeq.toNat ++
      held.flatMap (fun n => match s.pallet n with
        | some p => u8 n.number ++ u8 p.state.code ++ u8 ((p.location.map Zone.code).getD 0) ++
            u16 ((p.tag.map (·.product)).getD 0) ++ u8 p.attempts ++ u32 ((p.assignment.map (·.order)).getD 0) ++
            u8 ((p.assignment.map (·.line)).getD 0) ++ flagByte p.orphaned ++ u32 (p.serial.getD 0) ++
            u8 (match s.trt.offLine.findIdx? (· == n) with | some i => i + 1 | none => 0)
        | none => []) ∧
    s.trackSummary.length = 7 + 17 * held.length) ∧
  (∀ o : Order, o.report = u32 o.number ++ u8 o.priority ++ flagByte o.bonded ++ u8 o.state.code ++
      u8 ((o.lane.map Lane.number).getD 0) ++ u32 o.creationSeq.toNat ++ u32 o.manifest.toNat ++ u8 o.dispatch.length ++
      u8 o.lines.length ++ o.lines.flatMap (fun l => u8 l.number ++ u16 l.product ++ u8 l.ordered ++ u8 l.assigned ++
        u8 l.dispatched ++ u8 (l.assigned - l.dispatched)) ++ textBytes o.destination ++ textBytes (o.authority.getD []) ∧
    o.report.length = 20 + 7 * o.lines.length + o.destination.length + (o.authority.getD []).length) ∧
  (∀ e : DispatchEntry, e.bytes = u32 e.serial ++ u16 e.product ++ u16 (e.gross.getD 0xFFFF) ++ timeBytes (some e.time) ++
    textBytes e.batch ∧ e.bytes.length = 14 + e.batch.length) ∧
  (∀ b : Book, b.report.length = 5 + 17 * b.orders.length ∧ ∃ created : List Order, created.Perm b.orders ∧
    created.Pairwise (fun o q => o.creationSeq.toNat ≤ q.creationSeq.toNat) ∧
    b.report = u8 b.orders.length ++ u32 b.creationSeq.toNat ++ created.flatMap (fun o => u32 o.number ++
      u8 o.state.code ++ u8 o.priority ++ flagByte o.bonded ++ flagByte o.authority.isSome ++
      u8 ((o.lane.map Lane.number).getD 0) ++ u32 o.creationSeq.toNat ++ u8 (o.lines.map (·.ordered)).sum ++
      u8 (o.lines.map (·.assigned)).sum ++ u8 (o.lines.map (·.dispatched)).sum ++ u8 o.dispatch.length)) ∧
  (∀ s : State, s.zonesReport = Zone.all.flatMap (fun z => u8 (s.zone z).state.code ++ flagByte (s.zone z).interrupted ++
      flagByte (s.zone z).eye ++ u8 (((s.zone z).record.map TrackNo.number).getD 0) ++
      u8 (((s.zone z).partner.map Zone.code).getD 0) ++ u8 (s.zone z).moveTimer.left) ++
      u8 ((s.znc.route.map Lane.number).getD 0) ++
      u16 (match s.znc.laneWait with | .running left => left | .stopped => 0xFFFF) ++ u8 s.znc.splitter.number ++
      flagByte s.znc.infeedReady ∧
    s.zonesReport.length = 137) ∧
  (∀ s : State, s.wrappersReport.length = 42 ∧ s.wrappersReport = [Wrapper.a, .b].flatMap (fun w =>
    let r := s.wrapper w
    let held := match r.load with | .track n => s.pallet n | .none | .untracked => none
    u8 r.state.code ++ u8 ((r.pauseCause.map PauseCause.code).getD 0) ++ u8 ((r.faultCause.map FaultCause.code).getD 0) ++
      u8 (match r.load with | .none => 0 | .track n => n.number | .untracked => 255) ++
      u8 ((held.map (·.passesDone)).getD 0) ++
      u8 (match held.bind (·.plan) with | some q => q.bottom + q.up + q.top + q.down | none => 0) ++
      u8 (match r.load with
        | .track _ => (if r.sheetDone then 1 else 0) + (if r.cutDone then 2 else 0) + (if r.abortPending then 4 else 0) +
            (if r.dischargeUnderWay then 8 else 0)
        | .none | .untracked => 0) ++
      u8 (match held with
        | some p => ((nextPass p.plan p.passesDone r.sheetDone r.cutDone).map PassKind.code).getD 0
        | none => 0) ++
      u16 r.film ++ flagByte r.lowFilmSent ++ u8 r.channel.state.code ++
      u8 ((r.channel.command.map (·.kind.code)).getD 0) ++ u8 ((r.channel.command.map (·.number.toNat)).getD 0) ++
      u8 r.channel.resend ++ u8 r.channel.pass.left ++ timeBytes (some r.channel.lastSent))) ∧
  (∀ s : State, s.lanesReport.length = 72 ∧ s.lanesReport = (List.finRange 6).flatMap (fun n =>
    let l := s.lane n
    u8 l.state.code ++ u32 (l.order.getD 0) ++ u8 l.remaining ++ u8 l.minute.left ++ flagByte l.warned ++
      flagByte l.truck ++ u8 ((l.endCause.map EndCause.code).getD 0) ++
      u8 (match s.occupant (.gate n) with
        | none => ReleaseHold.noPallet.code
        | some m =>
          if (s.pallet m).any (·.orphaned) then ReleaseHold.stranded.code
          else if l.state = .paused then ReleaseHold.lanePaused.code
          else if l.truck = false then ReleaseHold.truckAbsent.code
          else if (l.order.bind s.order).any (fun o => o.bonded && o.authority.isNone) then ReleaseHold.noAuthority.code
          else if s.lsv.line ≠ .running then ReleaseHold.lineNotRunning.code
          else 0) ++
      u8 (((s.occupant (.gate n)).map TrackNo.number).getD 0))) ∧
  (∀ s : State,
    let slot (h : HostSlot) : Nat × Nat × Nat := match h with
      | .empty => (0, 0, 0)
      | .waiting j => (1, j.number, j.kind.toNat)
      | .inFlight j => (2, j.number, j.kind.toNat)
    s.settingsReport = u8 s.sdu.site.state.code ++
      (match s.sdu.site with
        | .valid c _ => textBytes (c.sitePrefix.getD []) ++ u32 c.mark
        | _ => [0, 0, 0, 0, 0]) ++
      u32 ((markFloor s.sdu.copies).getD 0xFFFFFFFF) ++ u8 s.sdu.timing.state.code ++
      (match s.sdu.timing with | .valid v _ => v.bytes | _ => [0, 0, 0, 0, 0, 0, 0, 0, 0]) ++ s.sdu.inForce.bytes ++
      u8 (slot s.sdu.host).1 ++ u8 (slot s.sdu.host).2.1 ++ u8 (slot s.sdu.host).2.2 ++
      u8 (match s.sdu.reservation with | .empty => 0 | .waiting => 1 | .inFlight _ => 2) ++
      (List.finRange 64).flatMap (fun i => u8 s.sdu.profiles[i].entry.state.code ++
        u16 (s.sdu.profiles[i].key.getD 0)) ++
      (List.finRange 16).flatMap (fun i => u8 s.sdu.recipes[i].state.code) ∧
    s.statusReport = u8 s.lsv.line.code ++ u8 s.lsv.key.code ++ flagByte s.lsv.chainOpen ++ timeBytes (some s.now) ++
      u8 ((List.finRange 24).filter fun n => (s.pallet n).isSome).length ++ u8 s.trt.offLine.length ++
      u8 s.obk.orders.length ++ u8 s.cku.state.code ++ u8 ((s.cku.track.map TrackNo.number).getD 0) ++
      u8 ((s.cku.holdTrack.map TrackNo.number).getD 0) ++ u8 s.cku.holdTimer.left ++
      u8 ((if s.cku.headInhibit.h1 then 1 else 0) + (if s.cku.headInhibit.h2 then 2 else 0) +
        (if s.cku.headInhibit.h3 then 4 else 0) + (if s.cku.headInhibit.h4 then 8 else 0)) ++
      u8 (s.wrapper .a).state.code ++ u8 (s.wrapper .b).state.code ++ u8 s.lbu.state.code ++
      u8 ((s.lbu.track.map TrackNo.number).getD 0) ++ u8 ((s.lbu.block.map IssueBlock.code).getD 0) ++ u32 s.lbu.next ++
      u32 s.lbu.reservedEnd ++ flagByte s.lbu.inFlight ++ flagByte s.lbu.exhausted ++
      (List.finRange 6).flatMap (fun n => u8 (s.lane n).state.code) ++ u8 (slot s.sdu.host).1 ++
      u8 (slot s.sdu.host).2.1 ++ u8 (match s.sdu.reservation with | .empty => 0 | .waiting => 1 | .inFlight _ => 2) ++
      u8 s.sdu.site.state.code ++ u16 s.lku.errors ++ u8 s.replyCount ++ u8 s.lku.notices.length ++
      flagByte s.lku.gap ++ u8 s.lku.job ++ u8 s.lku.queries.length ++ s.lku.queries.flatMap (fun q =>
        (match q.question with
          | .holdDecision track _ _ => u8 1 ++ u16 track.number
          | .profileWanted product _ => u8 2 ++ u16 product) ++ timeBytes (some q.made) ++ flagByte q.sent) ∧
    s.statusReport.length = 48 + 9 * s.lku.queries.length) ∧
  (∀ v : TimingValues, v.bytes = u8 v.tag ++ u8 v.scan ++ u8 v.weight ++ u8 v.hold ++ u8 v.move ++ u16 v.laneWait ++
    u8 v.warning ++ u8 v.pass) ∧
  (∀ t : Stamp, timeBytes (some t) = u32 t.clock.toNat ++ [if t.unset then 1 else 0]) ∧ timeBytes none = [0, 0, 0, 0, 2] ∧
  Zone.all = [.infeed, .scan, .div1, .feed, .wrap .a, .wrap .b, .out .a, .out .b, .merge, .label, .div2, .sort, .gate 0,
    .gate 1, .gate 2, .gate 3, .gate 4, .gate 5, .sp 0, .sp 1, .sp 2, .sp 3] ∧
  Zone.all.map Zone.code = List.range' 1 22 ∧
  [PalletState.entering, .checking, .held, .accepted, .wrapping, .wrapStopped, .wrapped, .labelling, .labelled, .rejected,
    .offLine].map PalletState.code = List.range' 1 11 ∧
  [Reason.weightLow, .weightHigh, .noWeight, .overhang, .underfill, .overHeight, .noScan, .scanShort, .scanFault, .noTag,
    .noProfile, .referenceDamaged, .noDemand, .reworkLimit, .wrapAbandoned, .labelNoRead, .labelMismatch, .noLane,
    .orderEnded].map Reason.code = List.range' 1 19 ∧
  [Status.ok, .accepted, .busy, .notPermitted, .wrongState, .malformed, .outOfRange, .notFound, .alreadyExists, .full,
    .tooLate, .inUse, .fixed, .palletPresent, .storeFault].map Status.code = List.range 15 ∧
  [OrderState.isOpen, .bound, .complete, .cutOff, .cancelled].map OrderState.code = [1, 2, 3, 4, 5] ∧
  [ZoneState.free, .awaitingTag, .occupied, .leaving, .reserved, .jammed, .uncertain, .untracked].map ZoneState.code =
    [1, 2, 3, 4, 5, 6, 7, 8] ∧
  [FaceResult.notDone, .isMatch, .noRead, .mismatch].map FaceResult.code = [1, 2, 3, 4] ∧
  [WrapperState.idle, .loading, .wrapping, .paused, .discharging, .stopped, .faulted, .offline].map WrapperState.code =
    [1, 2, 3, 4, 5, 6, 7, 8] ∧
  [PauseCause.halt, .estop, .filmOut, .filmBreak].map PauseCause.code = [1, 2, 3, 4] ∧
  [FaultCause.noResponse, .passTimeout, .unitFault].map FaultCause.code = [1, 2, 3] ∧
  [PassKind.bottom, .up, .sheet, .top, .down, .cut, .statusQuery].map PassKind.code = [1, 2, 3, 4, 5, 6, 7] ∧
  [ChannelState.idle, .sent, .working].map ChannelState.code = [1, 2, 3] ∧
  [LabelState.idle, .cycle, .waitSerial, .stopped].map LabelState.code = [1, 2, 3, 4] ∧
  [IssueBlock.noSite, .siteDamaged].map IssueBlock.code = [1, 2] ∧
  [CheckState.idle, .capturing, .done, .abandoned].map CheckState.code = [1, 2, 3, 4] ∧
  [LaneState.closed, .bound, .paused, .done, .ended].map LaneState.code = [1, 2, 3, 4, 5] ∧
  [EndCause.cutOff, .cancelled].map EndCause.code = [1, 2] ∧
  [ReleaseHold.noPallet, .stranded, .lanePaused, .truckAbsent, .noAuthority, .lineNotRunning].map ReleaseHold.code =
    [1, 2, 3, 4, 5, 6] ∧
  [EntryState.empty, .valid, .damaged].map EntryState.code = [1, 2, 3] ∧
  [LineState.powerUp, .stopped, .running, .halted].map LineState.code = [1, 2, 3, 4] ∧
  [KeyPosition.run, .setup, .service, .none].map KeyPosition.code = [1, 2, 3, 4] ∧
  [ResetKind.powerOn, .resetInput, .resetRequest].map ResetKind.code = [1, 2, 3] ∧
  [Wrapper.a, .b].map Wrapper.number = [1, 2]

/-! ### Orders -/

/-- NEW ORDER: for every order of 1 to 8 lines of different line numbers and products within the ranges, taken while the
book holds fewer than 16 records and none of that number, the record is entered OPEN with the next creation
sequence, no lane, no authority, no dispatch and manifest 0, its lines in ascending order of line number with
nothing assigned or dispatched; the reply carries the creation sequence, and nothing else changes (R26, R29, R30). While
the book holds 16 records it is refused FULL, and otherwise while a record of that number is in the book EXISTS, with
nothing changed (R29). -/
def Obligations.NewOrderIsEntered : Prop :=
  (∀ (s : State) (tag : Byte) (body : List Byte) (r : NewOrder), s.hears reqNewOrder = true →
    argNewOrder body = .ok r → s.obk.orders.length < 16 → s.order r.number = none →
    ∃ lines : List OrderLine,
      (lines.map fun l => (l.number, l.product, l.ordered)).Perm r.lines ∧ lines.Pairwise (fun a b => a.number < b.number) ∧
      (∀ l ∈ lines, l.assigned = 0 ∧ l.dispatched = 0) ∧
      exec (.newOrder tag body) s = .next
        ((s.modObk fun b => { b with
          creationSeq := b.creationSeq + 1
          orders := b.orders ++ [{
            number := r.number, destination := r.destination, priority := r.priority, bonded := r.bonded,
            authority := none, creationSeq := b.creationSeq + 1, state := .isOpen, lane := none, lines := lines,
            dispatch := [], manifest := 0 }] }).replied tag 0x20 .ok (u32 (s.obk.creationSeq + 1).toNat))) ∧
  ∀ (s : State) (tag : Byte) (body : List Byte) (r : NewOrder), s.hears reqNewOrder = true → argNewOrder body = .ok r →
    (16 ≤ s.obk.orders.length → exec (.newOrder tag body) s = .next (s.replied tag 0x20 .full [])) ∧
    (s.obk.orders.length < 16 → (s.order r.number).isSome = true →
      exec (.newOrder tag body) s = .next (s.replied tag 0x20 .alreadyExists []))

/-- A body of NEW ORDER written field by field reads back as the order it asks for, for every order of the ranges (R29,
R212, R216). Bodies of the CONFIGURE and SERVICE requests written field by field read back as what they ask for, for
every value of the ranges (R166, R168, R169, R175, R177, R212, R216). A body of any request, its fields at any values of
their encodings, gives the status of the first field that fails, in the order of the body, then of the first relation
that fails: OUT_OF_RANGE for a number outside its range, MALFORMED for a text, flag, choice or count that is none (R29,
R45, R49, R67, R73, R75, R102, R103, R116, R149, R154, R166, R168, R169, R175, R177, R187, R207, R213; that the sum
of NEW ORDER is tested before repeated lines and products is the model's choice, log 32). -/
def Obligations.BodiesReadBack : Prop :=
  (∀ r : NewOrder, 1 ≤ r.number → r.number ≤ 999999 → r.priority ≤ 3 → 1 ≤ r.destination.length →
    r.destination.length ≤ 24 → isText r.destination = true → 1 ≤ r.lines.length → r.lines.length ≤ 8 →
    (∀ l ∈ r.lines, 1 ≤ l.1 ∧ l.1 ≤ 8 ∧ 1 ≤ l.2.1 ∧ l.2.1 ≤ 65535 ∧ 1 ≤ l.2.2 ∧ l.2.2 ≤ 60) →
    (r.lines.map fun l => l.2.2).sum ≤ 60 → (r.lines.map fun l => l.1).Nodup → (r.lines.map fun l => l.2.1).Nodup →
    argNewOrder (u32 r.number ++ u8 r.priority ++ flagByte r.bonded ++ textBytes r.destination ++
      counted (fun l => u8 l.1 ++ u16 l.2.1 ++ u8 l.2.2) r.lines) = .ok r) ∧
  ((∀ p : Profile, p.grid.length = 320 → firstBad p.tests = none → argProfile p.bytes = .ok p ∧
    argSupply (u16 p.product ++ p.bytes) = .ok p) ∧
  (∀ product, 1 ≤ product → product ≤ 65535 → argProduct (u16 product) = .ok product) ∧
  (∀ (i : Fin 16) (r : Recipe), 100 ≤ r.prestretch → r.prestretch ≤ 350 → r.bottom ≤ 9 → r.up ≤ 20 → r.top ≤ 9 →
    r.down ≤ 20 → 1 ≤ r.film → r.film ≤ 40 → r.bottom + r.up + r.top + r.down ≤ 40 →
    argDefineRecipe (u8 (i.val + 1) ++ r.bytes) = .ok (i, r)) ∧
  (∀ i : Fin 16, argRecipe (u8 (i.val + 1)) = .ok i) ∧
  (∀ v : TimingValues, 1 ≤ v.tag → v.tag ≤ 10 → 2 ≤ v.scan → v.scan ≤ 30 → 2 ≤ v.weight → v.weight ≤ 30 → 5 ≤ v.hold →
    v.hold ≤ 60 → 4 ≤ v.move → v.move ≤ 30 → 10 ≤ v.laneWait → v.laneWait ≤ 600 → v.warning ≤ 60 → 20 ≤ v.pass →
    v.pass ≤ 240 → argTiming v.bytes = .ok v) ∧
  (∀ p : Text, isPrefix p = true → argPrefix (textBytes p) = .ok p ∧
    ∀ mark, 1 ≤ mark → mark ≤ 100000000 → argRecover (textBytes p ++ u32 mark) = .ok (p, mark))) ∧
  (∀ t : Text, (isText t = true ↔ ∀ b ∈ t, (0x41 ≤ b ∧ b ≤ 0x5A) ∨ (0x30 ≤ b ∧ b ≤ 0x39) ∨ b = 0x20 ∨ b = 0x2D ∨
      b = 0x2E ∨ b = 0x2F) ∧
    (isPrefix t = true ↔ t.length = 4 ∧ ∀ b ∈ t, (0x41 ≤ b ∧ b ≤ 0x5A) ∨ (0x30 ≤ b ∧ b ≤ 0x39))) ∧
  (∀ b : Byte, (b.toNat = 0 ∨ 24 < b.toNat → argTrack [b] = .error .outOfRange) ∧
    (b.toNat = 0 ∨ 6 < b.toNat → argLane [b] = .error .outOfRange) ∧
    (b.toNat = 0 ∨ 22 < b.toNat → argZone [b] = .error .outOfRange) ∧
    (b.toNat = 0 ∨ 2 < b.toNat → argWrapper [b] = .error .outOfRange) ∧
    (b.toNat = 0 ∨ 16 < b.toNat → argRecipe [b] = .error .outOfRange)) ∧
  ((∀ n : TrackNo, argTrack (u8 n.number) = .ok n) ∧ (∀ n : Lane, argLane (u8 n.number) = .ok n) ∧
    (∀ z : Zone, argZone (u8 z.code) = .ok z) ∧ (∀ w : Wrapper, argWrapper (u8 w.number) = .ok w)) ∧
  (∀ n, n < 4294967296 →
    argOrder (u32 n) = (if outside 1 999999 n then .error .outOfRange else .ok n) ∧ argClock (u32 n) = .ok n ∧
    (∀ start, start < 256 → argPage (u32 n ++ u8 start) = if outside 1 999999 n then .error .outOfRange
      else if outside 1 60 start then .error .outOfRange else .ok (n, start)) ∧
    (∀ t : Text, t.length < 256 → argAuthority (u32 n ++ textBytes t) = if outside 1 999999 n then .error .outOfRange
      else if badText 1 16 t then .error .malformed else .ok (n, t)) ∧
    ∀ m, m < 256 → (∀ lane : Lane, argBind (u8 lane.number ++ u32 n ++ u8 m) =
        if outside 1 999999 n then .error .outOfRange else if outside 1 240 m then .error .outOfRange
        else .ok (lane, n, m)) ∧
      ∀ lane, lane < 256 → outside 1 6 lane = true → argBind (u8 lane ++ u32 n ++ u8 m) = .error .outOfRange) ∧
  (∀ n, n < 65536 → argProduct (u16 n) = (if n = 0 then .error .outOfRange else .ok n) ∧
    (∀ w : Wrapper, argFilm (u8 w.number ++ u16 n) = if outside 100 3000 n then .error .outOfRange else .ok (w, n)) ∧
    ∀ w, w < 256 → outside 1 2 w = true → argFilm (u8 w ++ u16 n) = .error .outOfRange) ∧
  (∀ a b, a < 256 → b < 256 →
    (∀ lane : Lane, argExtend (u8 lane.number ++ u8 b) =
      if outside 1 240 b then .error .outOfRange else .ok (lane, b)) ∧
    (outside 1 6 a = true → argExtend (u8 a ++ u8 b) = .error .outOfRange) ∧
    (∀ n : TrackNo, argDecide (u8 n.number ++ u8 b) = if b = 1 then .ok (n, .override)
      else if b = 2 then .ok (n, .divert) else .error .malformed) ∧
    (outside 1 24 a = true → argDecide (u8 a ++ u8 b) = .error .outOfRange) ∧
    (∀ (z : Zone) (n : TrackNo), argConfirm (u8 z.code ++ u8 n.number) = .ok (z, n)) ∧
    (outside 1 22 a = true ∨ outside 1 24 b = true → argConfirm (u8 a ++ u8 b) = .error .outOfRange)) ∧
  (∀ heads : List Nat, heads.length < 256 → (∀ h ∈ heads, h < 256) → argHeads (counted u8 heads) =
    if 4 < heads.length then .error .malformed
    else if ∃ h ∈ heads, outside 1 4 h = true then .error .outOfRange
    else .ok ⟨decide (1 ∈ heads), decide (2 ∈ heads), decide (3 ∈ heads), decide (4 ∈ heads)⟩) ∧
  (∀ (number priority bonded : Nat) (destination : Text) (lines : List (Nat × Nat × Nat)), number < 4294967296 →
    priority < 256 → bonded < 256 → destination.length < 256 → lines.length < 256 →
    (∀ l ∈ lines, l.1 < 256 ∧ l.2.1 < 65536 ∧ l.2.2 < 256) →
    argNewOrder (u32 number ++ u8 priority ++ u8 bonded ++ textBytes destination ++
      counted (fun l => u8 l.1 ++ u16 l.2.1 ++ u8 l.2.2) lines) =
      if outside 1 999999 number || decide (3 < priority) then .error .outOfRange
      else if decide (1 < bonded) || badText 1 24 destination || outside 1 8 lines.length then .error .malformed
      else if ∃ l ∈ lines, outside 1 8 l.1 = true ∨ l.2.1 = 0 ∨ outside 1 60 l.2.2 = true then .error .outOfRange
      else if 60 < (lines.map fun l => l.2.2).sum then .error .outOfRange
      else if ¬ (lines.map fun l => l.1).Nodup then .error .malformed
      else if ¬ (lines.map fun l => l.2.1).Nodup then .error .malformed
      else .ok ⟨number, priority, decide (bonded = 1), destination, lines⟩) ∧
  (∀ p : Profile,
    firstBad p.tests = (if outside 1 65535 p.product then some .outOfRange
      else if badText 0 20 p.name then some .malformed
      else if outside 1 400 p.fullUnits || outside 1 2000 p.unitWeight || outside 50 600 p.tare ||
        outside 5 500 p.tolerance then some .outOfRange
      else if ∃ h ∈ p.grid, 2500 < h then some .outOfRange
      else if decide (28 < p.windowStart) || outside 5 200 p.overTolerance || outside 5 200 p.underTolerance ||
        decide (320 < p.overLimit) || decide (320 < p.underLimit) || outside 500 2500 p.highestAllowed ||
        decide (16 < p.recipe) then some .outOfRange
      else none) ∧
    (p.grid.length = 320 → (∀ h ∈ p.grid, h < 65536) → p.name.length < 256 → p.windowStart < 256 → p.recipe < 256 →
      (∀ v ∈ [p.product, p.fullUnits, p.unitWeight, p.tare, p.tolerance, p.overTolerance, p.underTolerance, p.overLimit,
        p.underLimit, p.highestAllowed], v < 65536) →
      argProfile p.bytes = (match firstBad p.tests with | some st => .error st | none => .ok p) ∧
      ∀ product, product < 65536 → argSupply (u16 product ++ p.bytes) =
        if product = 0 then .error .outOfRange
        else match firstBad p.tests with
          | some st => .error st
          | none => if product = p.product then .ok p else .error .malformed)) ∧
  (∀ (i : Fin 16) (number prestretch bottom up sheet top down film : Nat), number < 256 → prestretch < 65536 →
    bottom < 256 → up < 256 → sheet < 256 → top < 256 → down < 256 → film < 256 →
    let definition := u16 prestretch ++ u8 bottom ++ u8 up ++ u8 sheet ++ u8 top ++ u8 down ++ u8 film
    (outside 1 16 number = true → argDefineRecipe (u8 number ++ definition) = .error .outOfRange) ∧
    argDefineRecipe (u8 (i.val + 1) ++ definition) =
      if outside 100 350 prestretch || decide (9 < bottom) || decide (20 < up) then .error .outOfRange
      else if 1 < sheet then .error .malformed
      else if decide (9 < top) || decide (20 < down) || outside 1 40 film then .error .outOfRange
      else if 40 < bottom + up + top + down then .error .outOfRange
      else .ok (i, ⟨prestretch, bottom, up, decide (sheet = 1), top, down, film⟩)) ∧
  (∀ v : TimingValues, (∀ n ∈ [v.tag, v.scan, v.weight, v.hold, v.move, v.warning, v.pass], n < 256) →
    v.laneWait < 65536 → argTiming v.bytes =
      if outside 1 10 v.tag || outside 2 30 v.scan || outside 2 30 v.weight || outside 5 60 v.hold ||
        outside 4 30 v.move || outside 10 600 v.laneWait || decide (60 < v.warning) || outside 20 240 v.pass
      then .error .outOfRange else .ok v) ∧
  ∀ t : Text, t.length < 256 → argPrefix (textBytes t) = (if isPrefix t then .ok t else .error .malformed) ∧
    ∀ mark, mark < 4294967296 → argRecover (textBytes t ++ u32 mark) = if isPrefix t = false then .error .malformed
      else if outside 1 100000000 mark then .error .outOfRange else .ok (t, mark)

/-- CLOSE ORDER retires an ended order that holds no lane, and AUTHORISE RELEASE writes the reference of a live bonded
order with nothing dispatched, after which the release test is made at its lane; the refusals each rule lists change
nothing (R45, R46). CANCEL ORDER of a live order: it is CANCELLED with every assigned count at its dispatched count,
its dispatch list and manifest kept; no record names it any more, and its records are orphaned, but for one waiting
in LABEL for its serial, which may be given to another order; its lane is ENDED with cause CANCELLED and no other
lane changes; the LANE and ORDER notices come first (R36, R37, R39, R143). Of the records it orphans, the LABELLED one
OCCUPIED in DIV2, with its lane wait stopped, and the LABELLED one in LABEL are REJECTED with ORDER_ENDED, and the one
that waits for its serial is given to another live order with a line for its product or REJECTED so, with the label
unit idle (R95, R131, R143). -/
def Obligations.OrdersEndAndClose : Prop :=
  (∀ (s : State) (tag : Byte) (number : Nat), s.hears reqCloseOrder = true → 1 ≤ number → number ≤ 999999 →
    (s.order number = none → exec (.closeOrder tag (u32 number)) s = .next (s.replied tag 0x22 .notFound [])) ∧
    (∀ o, s.order number = some o →
      (o.state.live = true ∨ o.lane.isSome = true →
        exec (.closeOrder tag (u32 number)) s = .next (s.replied tag 0x22 .wrongState [])) ∧
      (o.state.live = false → o.lane = none → exec (.closeOrder tag (u32 number)) s =
        .next ((s.modObk fun b => { b with orders := b.orders.filter fun q => q.number != number }).replied
          tag 0x22 .ok [])) ∧
      ∀ reference : Text, 1 ≤ reference.length → reference.length ≤ 16 → isText reference = true →
        let body := u32 number ++ textBytes reference
        (o.bonded = false ∨ o.state.live = false →
          exec (.authoriseRelease tag body) s = .next (s.replied tag 0x23 .wrongState [])) ∧
        (o.bonded = true → o.state.live = true → o.dispatch ≠ [] →
          exec (.authoriseRelease tag body) s = .next (s.replied tag 0x23 .fixed [])) ∧
        (o.bonded = true → o.state.live = true → o.dispatch = [] →
          let u := s.modOrder number fun o => { o with authority := some reference }
          exec (.authoriseRelease tag body) s = .next ((match o.lane with
            | some n => (u.testRelease n).settle
            | none => u).replied tag 0x23 .ok [])))) ∧
  (∀ (s : State) (tag : Byte) (number : Nat), s.hears reqCloseOrder = true → 1 ≤ number → number ≤ 999999 →
    s.order number = none → exec (.cancelOrder tag (u32 number)) s = .next (s.replied tag 0x21 .notFound []) ∧
      ∀ reference : Text, 1 ≤ reference.length → reference.length ≤ 16 → isText reference = true →
        exec (.authoriseRelease tag (u32 number ++ textBytes reference)) s = .next (s.replied tag 0x23 .notFound [])) ∧
  (∀ (s : State) (tag : Byte) (number : Nat) (o : Order), s.hears reqCancelOrder = true → 1 ≤ number →
    number ≤ 999999 → s.order number = some o →
    (o.state.live = false → exec (.cancelOrder tag (u32 number)) s = .next (s.replied tag 0x21 .wrongState [])) ∧
    (o.state.live = true → ∃ t, exec (.cancelOrder tag (u32 number)) s = .next t ∧
      t.order number = some { o with
        state := .cancelled, lines := o.lines.map fun l => { l with assigned := l.dispatched } } ∧
      (∀ m p, t.pallet m = some p → p.assignment.map (·.order) ≠ some number) ∧
      (∀ m p, s.pallet m = some p → p.assignment.map (·.order) = some number →
        (s.lbu.state = .waitSerial ∧ s.lbu.track = some m) ∨
        ∃ q, t.pallet m = some q ∧ q.orphaned = true ∧ q.assignment = none ∧ q.serial = p.serial) ∧
      (∀ n, t.lane n = if o.lane = some n
        then { s.lane n with state := .ended, minute := .stopped, endCause := some .cancelled } else s.lane n) ∧
      (s.lku.notices.length + 2 ≤ 32 → ∃ later : List Notice,
        t.lku.notices = s.lku.notices ++
          ((match o.lane with
              | some n => [Event.lane .ended n (s.lane n).order (s.lane n).remaining (some .cancelled)]
              | none => []) ++
            [Event.order .cancelled number o.manifest (o.sum (·.dispatched)) o.dispatch.length
              (s.assignedTo number).length (o.lines.map fun l => (l.number, l.ordered - l.dispatched))]).mapIdx
            (fun i e => ⟨e, s.now, s.lku.gap && i == 0⟩) ++ later) ∧
      s.orphansDecided number t ∧
      s.onlyChanged t [.track, .book, .zones, .wrappers, .label, .lanes, .link]))

/-! ### Lanes -/

/-- BIND LANE of a CLOSED lane and an OPEN order: the lane is BOUND to it with the minutes given and a full minute
started, the order is BOUND to the lane, the warning is made at once when the minutes stand within the warning
setting, and the lane wait of a record of that order at DIV2 stops; then the moves are started. A missing order, a
lane not CLOSED and an order not OPEN are refused (R94, R149, R151, R152). UNBIND LANE, PAUSE LANE, RESUME LANE and
EXTEND CUT-OFF, each in the lane states that take it, and WRONG_STATE in the others (R150, R153, R154). -/
def Obligations.LaneRequestsActOnTheLane : Prop :=
  (∀ (s : State) (tag : Byte) (n : Lane) (number minutes : Nat), s.hears reqBindLane = true → 1 ≤ number →
    number ≤ 999999 → 1 ≤ minutes → minutes ≤ 240 →
    let body := u8 n.number ++ u32 number ++ u8 minutes
    let warns := decide (0 < s.sdu.inForce.warning ∧ minutes ≤ s.sdu.inForce.warning)
    let bound := (s.modLane n fun l => { l with
      state := .bound, order := some number, remaining := minutes, minute := .running 60, warned := warns,
      endCause := none }).modOrder number fun o => { o with state := .bound, lane := some n }
    let told := if warns then bound.notify (.lane .warning n (some number) minutes none) else bound
    let waited := if ((s.occupant .div2).bind s.pallet).bind (fun p => p.assignment.map (·.order)) = some number
      then told.modZnc fun u => { u with laneWait := .stopped } else told
    (s.order number = none → exec (.bindLane tag body) s = .next (s.replied tag 0x24 .notFound [])) ∧
    (∀ o, s.order number = some o →
      ((s.lane n).state ≠ .closed ∨ o.state ≠ .isOpen →
        exec (.bindLane tag body) s = .next (s.replied tag 0x24 .wrongState [])) ∧
      ((s.lane n).state = .closed → o.state = .isOpen →
        exec (.bindLane tag body) s = .next (waited.settle.replied tag 0x24 .ok [])))) ∧
  (∀ (s : State) (tag : Byte) (n : Lane), s.hears reqUnbindLane = true →
    (exec (.unbindLane tag (u8 n.number)) s = .next (
      if ((s.lane n).state = .done ∨ (s.lane n).state = .ended) ∧ (s.zone (.gate n)).state = .free ∧
          s.znc.route ≠ some n then
        let u := s.modLane n fun l => { l with
          state := .closed, order := none, remaining := 0, warned := false, endCause := none, minute := .stopped }
        (match (s.lane n).order with
          | some number => u.modOrder number fun o => { o with lane := none }
          | none => u).replied tag 0x25 .ok []
      else s.replied tag 0x25 .wrongState [])) ∧
    (exec (.pauseLane tag (u8 n.number)) s = .next (
      if (s.lane n).state = .bound then
        (s.modLane n fun l => { l with state := .paused, minute := .held (max 1 l.minute.left) }).replied tag 0x26 .ok []
      else s.replied tag 0x26 .wrongState [])) ∧
    (exec (.resumeLane tag (u8 n.number)) s = .next (
      if (s.lane n).state = .paused then
        (((s.modLane n fun l => { l with state := .bound, minute := .running l.minute.left }).testRelease n).settle).replied
          tag 0x27 .ok []
      else s.replied tag 0x27 .wrongState [])) ∧
    (∀ minutes, 1 ≤ minutes → minutes ≤ 240 → exec (.extendCutOff tag (u8 n.number ++ u8 minutes)) s = .next (
      if (s.lane n).state = .bound ∨ (s.lane n).state = .paused then
        let remaining := min 240 ((s.lane n).remaining + minutes)
        (s.modLane n fun l => { l with
          remaining := remaining, warned := l.warned && decide (remaining ≤ s.sdu.inForce.warning) }).replied
            tag 0x28 .ok (u8 remaining)
      else s.replied tag 0x28 .wrongState [])))

/-! ### The hold, the heads, the clock -/

/-- DECIDE HOLD for a HELD record: the hold ends with its query withdrawn and its number in the hold-ended list.
OVERRIDE takes the reasons away and the record is ACCEPTED with the allocation found and the plan of the hold
recipe, or REJECTED with NO_DEMAND; DIVERT makes it REJECTED with its reasons. After the hold the answer is TOO_LATE
(R67, R68, R69). The hold timer's expiry on a HELD record ends the hold and rejects it with its reasons; a stopped
timer does nothing (R70). -/
def Obligations.HoldIsDecidedOrTimesOut : Prop :=
  (∀ (s : State) (tag : Byte) (n : TrackNo), s.hears reqDecideHold = true →
    let ended := (s.modLku fun l => { l with
        queries := l.queries.filter fun q => !(q.question.isHoldOf n) }).modCku fun c => { c with
      holdTimer := .stopped, holdTrack := none,
      holdEnded := if n ∈ c.holdEnded then c.holdEnded else c.holdEnded ++ [n] }
    let cleared := ended.modPallet n fun p => { p with reasons := [] }
    (s.pallet n = none → ∀ d, d = 1 ∨ d = 2 →
      exec (.decideHold tag (u8 n.number ++ u8 d)) s = .next (s.replied tag 0x29 .notFound [])) ∧
    (s.palletState n = some .held →
      exec (.decideHold tag (u8 n.number ++ u8 1)) s = .next ((match cleared.allocate n with
        | some u => ((u.copyPlan n u.cku.holdRecipe).enter n .accepted .accepted).settle
        | none => (cleared.reject n (some .noDemand)).settle).replied tag 0x29 .ok []) ∧
      exec (.decideHold tag (u8 n.number ++ u8 2)) s =
        .next ((ended.reject n none).settle.replied tag 0x29 .ok [])) ∧
    (∀ p, s.pallet n = some p → p.state ≠ .held → ∀ d, d = 1 ∨ d = 2 →
      exec (.decideHold tag (u8 n.number ++ u8 d)) s =
        .next (s.replied tag 0x29 (if n ∈ s.cku.holdEnded then .tooLate else .wrongState) []))) ∧
  (∀ s : State, s.inReset = false →
    (∀ n, s.cku.holdTrack = some n → s.cku.holdTimer.isRunning = true → s.palletState n = some .held →
      exec .holdTimerExpiry s = .next (((s.modLku fun l => { l with
          queries := l.queries.filter fun q => !(q.question.isHoldOf n) }).modCku fun c => { c with
        holdTimer := .stopped, holdTrack := none,
        holdEnded := if n ∈ c.holdEnded then c.holdEnded else c.holdEnded ++ [n] }).reject n none).settle.pump) ∧
    (s.cku.holdTimer = .stopped → exec .holdTimerExpiry s = .next s.settle.pump))

/-- INHIBIT HEADS writes the set of heads it lists, for every list of at most four heads; SET CLOCK writes its value,
clears the flag and answers the clock as it stood and the value (R75, R207). -/
def Obligations.HeadsAndClockAreSet : Prop :=
  ∀ (s : State) (tag : Byte), s.hears reqSetClock = true →
    (∀ heads : List Nat, heads.length ≤ 4 → (∀ h ∈ heads, 1 ≤ h ∧ h ≤ 4) →
      exec (.inhibitHeads tag (counted u8 heads)) s = .next ((s.modCku fun c => { c with
        headInhibit := ⟨decide (1 ∈ heads), decide (2 ∈ heads), decide (3 ∈ heads), decide (4 ∈ heads)⟩ }).replied
          tag 0x37 .ok [])) ∧
    (∀ value : Nat, value < 4294967296 → exec (.setClock tag (u32 value)) s =
      .next ((s.modLsv fun v => { v with clock := BitVec.ofNat 32 value, unset := false }).replied tag 0x38 .ok
        (u32 s.lsv.clock.toNat ++ [if s.lsv.unset then 1 else 0] ++ u32 value)))

/-! ### Pallets and zones -/

/-- RETURN PALLET for a tagged REJECTED record in SP-4 with fewer than 3 checks and the eye clear: the record is
OFF_LINE in no zone at the end of the OFF_LINE list, SP-4 is FREE, the PALLET notice RETURNED is made; its
assignment, serial, attempts and reasons stay. The other cases are refused (R15, R17, R18). -/
def Obligations.PalletIsReturned : Prop :=
  ∀ (s : State) (tag : Byte) (n : TrackNo), s.hears reqReturnPallet = true →
    (s.pallet n = none → exec (.returnPallet tag (u8 n.number)) s = .next (s.replied tag 0x2C .notFound [])) ∧
    ∀ p, s.pallet n = some p →
      let may := p.state = .rejected ∧ p.location = some (.sp 3) ∧ p.tag.isSome = true ∧ p.attempts < 3
      (¬ may → exec (.returnPallet tag (u8 n.number)) s = .next (s.replied tag 0x2C .wrongState [])) ∧
      (may → (s.zone (.sp 3)).eye = true →
        exec (.returnPallet tag (u8 n.number)) s = .next (s.replied tag 0x2C .palletPresent [])) ∧
      (may → (s.zone (.sp 3)).eye = false → exec (.returnPallet tag (u8 n.number)) s =
        .next (((((s.modTrt fun t => { t with offLine := t.offLine ++ [n] }).freeZone (.sp 3)).putPallet n
          (some { p with state := .offLine, location := none })).notify
            (.pallet .returned n (some .offLine) p.serial none false [])).settle.replied tag 0x2C .ok []))

/-- The places of REMOVE PALLET: off line, the pair of a JAMMED or UNCERTAIN zone, the spur's exit, a wrapper that is
FAULTED or OFFLINE with its WRAP_STOPPED record, a gate with an orphaned record, and no other (R20). REMOVE PALLET:
NOT_FOUND without a record, WRONG_STATE where the record stands in no place of the table, PALLET_PRESENT while an
eye of the place is made; otherwise the assignment is released, the record leaves the OFF_LINE list, WSQ is told of
a wrapper that no longer holds a pallet, the zones of the place are FREE, the record is retired with the notice
VOIDED when it held a serial, else REMOVED, and the moves and grants that the FREE zones allow start (R19, R20, R21,
R126). A wrapper told so has load none and no mark of the wrap, and is IDLE from LOADING, DISCHARGING, STOPPED and
IDLE, else in its state (R126). That the route of SORT goes with a record on its way into it, and that the arbiters
grant at this request, are read from the rules (logs 24, 43). -/
def Obligations.PalletIsRemovedFromItsPlace : Prop :=
  (∀ (s : State) (p : Pallet),
    (p.state = .offLine → s.removalPlace p = some .offLine) ∧
    (p.state ≠ .offLine → p.location = none → s.removalPlace p = none) ∧
    ∀ z, p.location = some z → p.state ≠ .offLine →
      (∀ q, (s.zone z).state = .jammed ∨ (s.zone z).state = .uncertain → (s.zone z).partner = some q →
        s.removalPlace p = some (.pair z q)) ∧
      ((s.zone z).state ≠ .jammed → (s.zone z).state ≠ .uncertain →
        (z = .sp 3 → s.removalPlace p = some .spurExit) ∧
        (∀ w, z = .wrap w → s.removalPlace p =
          if p.state = .wrapStopped ∧ ((s.wrapper w).state = .faulted ∨ (s.wrapper w).state = .offline)
          then some (.wrapper w) else none) ∧
        (∀ n, z = .gate n → s.removalPlace p = if p.orphaned then some (.gate n) else none) ∧
        ((∀ w, z ≠ .wrap w) → (∀ n, z ≠ .gate n) → z ≠ .sp 3 → s.removalPlace p = none))) ∧
  (∀ (s : State) (w : Wrapper), s.emptied w = s.putWrapper w { s.wrapper w with
    load := .none, sheetDone := false, cutDone := false, abortPending := false, dischargeUnderWay := false
    state := if (s.wrapper w).state = .loading ∨ (s.wrapper w).state = .discharging ∨ (s.wrapper w).state = .stopped
      then .idle else (s.wrapper w).state }) ∧
  (∀ (s : State) (tag : Byte) (n : TrackNo), s.hears reqRemovePallet = true →
    (s.pallet n = none → exec (.removePallet tag (u8 n.number)) s = .next (s.replied tag 0x2B .notFound [])) ∧
    ∀ p, s.pallet n = some p →
      (s.removalPlace p = none → exec (.removePallet tag (u8 n.number)) s = .next (s.replied tag 0x2B .wrongState [])) ∧
      ∀ place, s.removalPlace p = some place →
        (s.eyesClear place = false →
          exec (.removePallet tag (u8 n.number)) s = .next (s.replied tag 0x2B .palletPresent [])) ∧
        (s.eyesClear place = true →
          let listed := (s.releaseAssignment n).modTrt fun t => { t with offLine := t.offLine.filter (· != n) }
          let free := { ZoneRecord.free with eye := false }
          let cleared := match place with
            | .offLine => listed
            | .spurExit => listed.putZone (.sp 3) free
            | .gate g => listed.putZone (.gate g) free
            | .wrapper w => (listed.emptied w).putZone (.wrap w) free
            | .pair z q => ((match z, q with
                | .feed, .wrap w => listed.emptied w
                | .wrap w, _ => listed.emptied w
                | .div2, .sort => listed.modZnc fun u => { u with route := none }
                | _, _ => listed).putZone z free).putZone q free
          let told := cleared.notify
            (.pallet (if p.serial.isSome then .voided else .removed) n none p.serial none false [])
          ∃ t, exec (.removePallet tag (u8 n.number)) s = .next t ∧ t = (told.retire n).settle.replied tag 0x2B .ok [] ∧
            t.pallet n = none ∧ t.trt.offLine = s.trt.offLine.filter (· != n) ∧
            (∀ m, m ≠ n → t.pallet m = s.pallet m) ∧ t.obk = (s.releaseAssignment n).obk ∧
            (s.lku.notices.length < 32 → t.lku.notices = s.lku.notices ++
              [⟨.pallet (if p.serial.isSome then .voided else .removed) n none p.serial none false [], s.now,
                s.lku.gap⟩]) ∧
            s.onlyChanged t [.track, .book, .check, .zones, .wrappers, .link]))

/-- CLEAR ZONE frees an UNTRACKED zone whose eye is clear and tells WSQ of a wrapper zone; CONFIRM ZONE puts the record
of a JAMMED or UNCERTAIN pair into the zone named, whose eye is made, and frees the other zone, or leaves it
UNTRACKED with its ZONE notice when its eye is made too; the cases each rule refuses change nothing (R102, R103). What
an undone move is told to is stated with the resolution at RESTART LINE (InterruptedMoveIsResolved; R82, R107, R119). -/
def Obligations.ZonesAreRepaired : Prop :=
  ∀ (s : State) (tag : Byte) (z : Zone), s.hears reqClearZone = true →
    (exec (.clearZone tag (u8 z.code)) s = .next (
      if (s.zone z).state ≠ .untracked then s.replied tag 0x2D .wrongState []
      else if (s.zone z).eye then s.replied tag 0x2D .palletPresent []
      else
        let u := s.putZone z { ZoneRecord.free with eye := false }
        (match z with | .wrap w => u.emptied w | _ => u).settle.replied tag 0x2D .ok [])) ∧
    ∀ n : TrackNo,
      (s.pallet n = none →
        exec (.confirmZone tag (u8 z.code ++ u8 n.number)) s = .next (s.replied tag 0x2E .notFound [])) ∧
      (∀ p, s.pallet n = some p →
        (((s.zone z).state ≠ .jammed ∧ (s.zone z).state ≠ .uncertain) ∨ (s.zone z).record ≠ some n ∨
            (s.zone z).eye = false →
          exec (.confirmZone tag (u8 z.code ++ u8 n.number)) s = .next (s.replied tag 0x2E .wrongState [])) ∧
        (∀ other, (s.zone z).state = .jammed ∨ (s.zone z).state = .uncertain → (s.zone z).record = some n →
          (s.zone z).eye = true → (s.zone z).partner = some other →
          let placed := s.occupy z n
          let freed := if (placed.zone other).eye
            then (placed.untrackZone other).notify (.zone .untracked other none none (some .confirm))
            else placed.freeZone other
          exec (.confirmZone tag (u8 z.code ++ u8 n.number)) s = .next
            ((if p.location = some z then freed.tellUndone z other else freed.handOn z n).settle.replied
              tag 0x2E .ok [])))

/-! ### The line -/

/-- RESTART LINE is refused WRONG_STATE unless the line is STOPPED with the key in RUN and the chain closed; taken, the
line is RUNNING with key, chain and clock as they were, an abandoned check is armed again with fresh timers, and a
suspended unit without a cycle is no longer suspended; the last two where no interrupted move is resolved before
(R204, R205). The whole of it: the interrupted moves resolved in zone code order (log 26), the line RUNNING with its LINE
notice RESTART, an abandoned check armed again, a suspended unit no longer suspended and its cycle resumed, faces that
have had two applies written NO_READ and the record rejected, and then what each change to RUNNING does: a wrapper PAUSED
with cause HALT or ESTOP takes its step, A before B (log 44), the moves start, the release test is made at lanes 1 to 6
in turn (log 45), and the moves it allows start (R77, R81, R101, R117, R145, R158, R194, R201, R202, R205). -/
def Obligations.LineIsRestarted : Prop :=
  (∀ (s : State) (tag : Byte), s.hears reqRestartLine = true →
    (s.lsv.line ≠ .stopped ∨ s.lsv.key ≠ .run ∨ s.lsv.chainOpen = true →
      exec (.restartLine tag []) s = .next (s.replied tag 0x2F .wrongState [])) ∧
    (s.lsv.line = .stopped → s.lsv.key = .run → s.lsv.chainOpen = false →
      ∃ t, exec (.restartLine tag []) s = .next t ∧ t.lsv = { s.lsv with line := .running } ∧
        (s.cku.state = .abandoned → (∀ z, (s.zone z).interrupted = false) →
          (∀ g n, s.cku.track = some n → s.occupant (.gate g) ≠ some n) → t.cku.state = .capturing ∧
          t.cku.weight = .armed ∧ t.cku.frame = .armed ∧ t.cku.weightTimer = .running s.sdu.inForce.weight ∧
          t.cku.scanTimer = .running s.sdu.inForce.scan) ∧
        ((∀ z, (s.zone z).interrupted = false) → s.lbu.state ≠ .cycle → t.lbu = { s.lbu with suspended := false }) ∧
        t.pins = s.pins ∧ t.freeCount = s.freeCount ∧ t.pending = s.pending ∧
        let resolved := Zone.all.foldl (fun u z => u.resolveMove z) s
        let entered := (resolved.modLsv fun v => { v with line := .running }).notify
          (.line .stopped .running .restart .run false)
        let armed := if entered.cku.state = .abandoned then entered.modCku fun c => { c with
            state := .capturing, weight := .armed, frame := .armed, weightTimer := .running entered.sdu.inForce.weight,
            scanTimer := .running entered.sdu.inForce.scan } else entered
        t = armed.unsuspend.takeRunning.replied tag 0x2F .ok [])) ∧
  (∀ s : State,
    let resumed (w : Wrapper) (u : State) : State :=
      if (u.wrapper w).state = .paused ∧
          ((u.wrapper w).pauseCause = some .halt ∨ (u.wrapper w).pauseCause = some .estop) then u.wrapStep w else u
    s.takeRunning = (([0, 1, 2, 3, 4, 5] : List Lane).foldl (fun u n => u.testRelease n)
      (resumed .b (resumed .a s)).settle).settle) ∧
  ∀ s : State, (s.lbu.suspended = false → s.unsuspend = s) ∧
    (s.lbu.suspended = true → s.lbu.state ≠ .cycle → s.unsuspend = s.modLbu fun l => { l with suspended := false }) ∧
    ∀ n p, s.lbu.suspended = true → s.lbu.state = .cycle → s.lbu.track = some n → s.pallet n = some p →
      let spent (f : Face) : Bool := s.faceStep f == .toApply && decide (2 ≤ (p.faces.face f).attempts)
      let written (f : Face) : FaceRecord :=
        { p.faces.face f with result := if spent f then .noRead else (p.faces.face f).result }
      ((∀ f, spent f = false) → s.unsuspend = (s.modLbu fun l => { l with suspended := false }).advance) ∧
      ((∃ f, spent f = true) → s.unsuspend =
        ((s.putPallet n (some { p with faces := ⟨written .side, written .fend⟩ })).reject n (some .labelNoRead)).modLbu
          fun l => { l with
            state := .idle, track := none, suspended := false, content := none, steps := ⟨.done, .done⟩,
            applyTimers := ⟨.stopped, .stopped⟩, readTimer := .stopped })

/-! ### Wrappers and the labeller -/

/-- RESTORE WRAPPER for a FAULTED wrapper with an idle channel sends a status query and owes its reply; WRONG_STATE for
a wrapper not FAULTED, BUSY while a command is in flight (R121, R188). The end of a status query that RESTORE
WRAPPER sent: a healthy report restores the FAULTED wrapper by its load and the owed reply is OK; an unhealthy one,
and the acceptance timer's expiry, leave it FAULTED and the reply is WRONG_STATE. In POWER_UP what was found is kept
for the end of start-up (R121, R128, R188). That the query writes the last-sent time and the resend count is read
from R111 (logs 37, 49). -/
def Obligations.WrapperIsRestoredByItsReport : Prop :=
  (∀ (s : State) (tag : Byte) (w : Wrapper), s.hears reqRestoreWrapper = true →
    ((s.wrapper w).state ≠ .faulted →
      exec (.restoreWrapper tag (u8 w.number)) s = .next (s.replied tag 0x30 .wrongState [])) ∧
    ((s.wrapper w).state = .faulted → (s.wrapper w).channel.state ≠ .idle →
      exec (.restoreWrapper tag (u8 w.number)) s = .next (s.replied tag 0x30 .busy [])) ∧
    ((s.wrapper w).state = .faulted → (s.wrapper w).channel.state = .idle →
      let number := (s.wrapper w).channel.last + 1
      let channel := { (s.wrapper w).channel with
        state := .sent, command := some ⟨.statusQuery, number⟩, last := number, resend := 0, acceptance := true,
        lastSent := s.now }
      let sent : Option StationMessage := some ⟨.statusQuery, number, 0, none⟩
      exec (.restoreWrapper tag (u8 w.number)) s =
        .next ((s.putWrapper w { s.wrapper w with owed := some tag, channel := channel }).modPorts
          fun o => { o with station := o.station.setWrapper w sent }).pump)) ∧
  (∀ (s : State) (w : Wrapper) (number : Byte) (healthy loaded : Bool), s.inReset = false →
    (s.wrapper w).channel.state = .sent → (s.wrapper w).channel.command = some ⟨.statusQuery, number⟩ →
    let r := s.wrapper w
    let idle := { r.channel with state := .idle, command := none, acceptance := false, pass := .stopped }
    let after := match r.load with
      | .none => WrapperState.idle
      | .untracked => .stopped
      | .track n => if s.palletState n = some .rejected then .discharging else .stopped
    (s.lsv.line = .powerUp →
      exec (.stationStatusReport w number healthy loaded) s = .next
        (s.putWrapper w { r with channel := idle, found := some (.report healthy loaded) }).settle.pump ∧
      (r.channel.acceptance = true → exec (.acceptanceTimerExpiry w) s = .next
        (s.putWrapper w { r with channel := idle, found := some .silent }).pump)) ∧
    (∀ tag, s.lsv.line ≠ .powerUp → r.owed = some tag →
      exec (.stationStatusReport w number healthy loaded) s = .next (if healthy
        then ((s.putWrapper w { r with channel := idle, state := after, faultCause := none, owed := none }).place
          (.reply tag 0x30 .ok [])).settle.pump
        else ((s.putWrapper w { r with channel := idle, owed := none }).place
          (.reply tag 0x30 .wrongState [])).settle.pump) ∧
      (r.channel.acceptance = true → exec (.acceptanceTimerExpiry w) s = .next
        ((s.putWrapper w { r with channel := idle, owed := none }).place (.reply tag 0x30 .wrongState [])).pump)))

/-- WRAPPER OFFLINE, WRAPPER ONLINE and FILM LOADED, in every wrapper state (R116, R124, R125): OFFLINE at once from
IDLE and STOPPED, by abort from WRAPPING and PAUSED, and refused in the others; ONLINE from OFFLINE only; film set
unless WRAPPING, with the next step taken when the pause was for film. RESTART WRAP begins the plan of a STOPPED
wrapper's WRAP_STOPPED record again; RELEASE UNWRAPPED rejects the WRAP_STOPPED record of a STOPPED or FAULTED
wrapper with WRAP_ABANDONED, a STOPPED wrapper then discharging; both WRONG_STATE otherwise (R122, R123). -/
def Obligations.WrapperRequestsAct : Prop :=
  (∀ (s : State) (tag : Byte) (w : Wrapper), s.hears reqWrapperOffline = true →
    (exec (.wrapperOffline tag (u8 w.number)) s = .next (match (s.wrapper w).state with
      | .idle | .stopped => (s.modWrapper w fun r => { r with state := .offline }).settle.replied tag 0x31 .ok []
      | .wrapping => (s.modWrapper w fun r => { r with abortPending := true }).replied tag 0x31 .ok []
      | .paused => ((s.modWrapper w fun r => { r with abortPending := true }).takeAbort w).settle.replied tag 0x31 .ok []
      | .loading | .discharging | .faulted | .offline => s.replied tag 0x31 .wrongState [])) ∧
    (exec (.wrapperOnline tag (u8 w.number)) s = .next (
      if (s.wrapper w).state = .offline then
        (s.modWrapper w fun r => { r with
          state := if r.load = .none then .idle else .stopped }).settle.replied tag 0x32 .ok []
      else s.replied tag 0x32 .wrongState [])) ∧
    (∀ metres, 100 ≤ metres → metres ≤ 3000 → exec (.filmLoaded tag (u8 w.number ++ u16 metres)) s = .next (
      if (s.wrapper w).state = .wrapping then s.replied tag 0x33 .wrongState []
      else
        let u := s.modWrapper w fun r => { r with film := metres, lowFilmSent := false }
        (if (s.wrapper w).state = .paused ∧
            ((s.wrapper w).pauseCause = some .filmOut ∨ (s.wrapper w).pauseCause = some .filmBreak)
          then (u.wrapStep w).settle else u).replied tag 0x33 .ok []))) ∧
  (∀ (s : State) (tag : Byte) (w : Wrapper), s.hears reqRestartWrap = true →
    (((s.wrapper w).state ≠ .stopped ∨ s.holdsStopped w = false) →
      exec (.restartWrap tag (u8 w.number)) s = .next (s.replied tag 0x34 .wrongState [])) ∧
    (((s.wrapper w).state ≠ .stopped ∧ (s.wrapper w).state ≠ .faulted) ∨ s.holdsStopped w = false →
      exec (.releaseUnwrapped tag (u8 w.number)) s = .next (s.replied tag 0x35 .wrongState [])) ∧
    ∀ n p, (s.wrapper w).load = .track n → s.pallet n = some p → p.state = .wrapStopped →
      ((s.wrapper w).state = .stopped → exec (.restartWrap tag (u8 w.number)) s =
        .next ((((s.putPallet n (some { p with state := .wrapping, passesDone := 0 })).modWrapper w
          fun r => { r with sheetDone := false, cutDone := false }).wrapStep w).settle.replied tag 0x34 .ok [])) ∧
      ((s.wrapper w).state = .stopped ∨ (s.wrapper w).state = .faulted →
        exec (.releaseUnwrapped tag (u8 w.number)) s =
          .next (((s.reject n (some .wrapAbandoned)).modWrapper w fun r =>
            if r.state = .stopped then { r with state := .discharging } else r).settle.replied tag 0x35 .ok [])))

/-- RESTORE LABELLER for a unit STOPPED: while the line is STOPPED the cycle is held suspended; otherwise a face to be
applied that has had two applies is written NO_READ and the record is rejected, and if there is none the cycle goes
on. Any other unit state is WRONG_STATE (R142). -/
def Obligations.LabellerIsRestored : Prop :=
  ∀ (s : State) (tag : Byte), s.hears reqRestoreLabeller = true →
    (s.lbu.state ≠ .stopped → exec (.restoreLabeller tag []) s = .next (s.replied tag 0x36 .wrongState [])) ∧
    (s.lbu.state = .stopped → s.lsv.line = .stopped → exec (.restoreLabeller tag []) s =
      .next ((s.modLbu fun l => { l with state := .cycle, suspended := true }).settle.replied tag 0x36 .ok [])) ∧
    (s.lbu.state = .stopped → s.lsv.line ≠ .stopped →
      let u := s.modLbu fun l => { l with state := .cycle, suspended := false }
      ((∀ f, s.spent f = false) → exec (.restoreLabeller tag []) s = .next (u.advance.settle.replied tag 0x36 .ok [])) ∧
      (∀ n p, s.lbu.track = some n → s.pallet n = some p → (∃ f, s.spent f = true) →
        ∃ t q, exec (.restoreLabeller tag []) s = .next t ∧ t.lbu.state = .idle ∧ t.lbu.track = none ∧
          t.pallet n = some q ∧ q.state = .rejected ∧ Reason.labelNoRead ∈ q.reasons ∧
          (∀ f, s.spent f = true → (q.faces.face f).result = .noRead) ∧
          s.onlyChanged t [.track, .book, .zones, .wrappers, .label, .link]))

/-! ### CONFIGURE and SERVICE requests -/

/-- A store request that passes its checks goes into the empty host job slot as waiting, with the next job number (255
steps to 1), a write starts, and the reply is ACCEPTED with the number; SUPPLY PROFILE is TOO_LATE when its product
is not asked for; each is BUSY while the slot is occupied, and each refusal of its rule changes nothing (R73, R167,
R168, R169, R170, R175, R177, R190). RESET CONTROLLER is BUSY while a store write is in flight; otherwise a reset is
pending and the reply is OK (R209). That NOT_FOUND of a profile's recipe and IN_USE are decided from the entries
without a check of their check words is read from the rules (log 41). -/
def Obligations.ConfigureAndServiceRequestsAreTaken : Prop :=
  (∀ (s : State) (tag : Byte) (body : List Byte),
    let number := if s.lku.job < 255 then s.lku.job + 1 else 1
    let job (kind : Byte) (write : StoreWrite) : State :=
      (((s.modLku fun l => { l with job := number }).modSdu fun d => { d with
        host := .waiting ⟨number, kind, write⟩ }).startWrite).replied tag kind .accepted [BitVec.ofNat 8 number]
    let no (kind : Byte) (st : Status) : State := s.replied tag kind st []
    let free := s.sdu.host = .empty
    let define (kind : Byte) (p : Profile) : State :=
      if ¬ free then no kind .busy
      else if ∃ i, recipeEntry p.recipe = some i ∧ s.sdu.recipes[i].state ≠ .valid then no kind .notFound
      else match s.sdu.slotFor p.product with
        | some i => job kind (.profile i p)
        | none => no kind .full
    (∀ p, s.hears reqSupplyProfile = true → argSupply body = .ok p → exec (.supplyProfile tag body) s =
      .next (if s.profileAsked p.product = true then define 0x2A p else no 0x2A .tooLate)) ∧
    (∀ p, s.hears reqDefineProfile = true → argProfile body = .ok p →
      exec (.defineProfile tag body) s = .next (define 0x40 p)) ∧
    (∀ product, s.hears reqDefineProfile = true → argProduct body = .ok product → exec (.deleteProfile tag body) s =
      .next (if ¬ free then no 0x41 .busy else match s.sdu.slotOf product with
        | some i => job 0x41 (.clearProfile i)
        | none => no 0x41 .notFound)) ∧
    (∀ i r, s.hears reqDefineProfile = true → argDefineRecipe body = .ok (i, r) → exec (.defineRecipe tag body) s =
      .next (if ¬ free then no 0x42 .busy else job 0x42 (.recipe i r))) ∧
    (∀ i, s.hears reqDefineProfile = true → argRecipe body = .ok i → exec (.deleteRecipe tag body) s =
      .next (if ¬ free then no 0x43 .busy
        else if s.sdu.recipeInUse (i.val + 1) = true then no 0x43 .inUse
        else if s.sdu.recipes[i].state = .empty then no 0x43 .notFound
        else job 0x43 (.clearRecipe i))) ∧
    (∀ v, s.hears reqDefineProfile = true → argTiming body = .ok v → exec (.setTiming tag body) s =
      .next (if ¬ free then no 0x44 .busy else job 0x44 (.timing v))) ∧
    (∀ p, s.hears reqDefineProfile = true → argPrefix body = .ok p → exec (.setSite tag body) s =
      .next (if ¬ free then no 0x45 .busy else match s.sdu.site with
        | .valid ⟨some _, _⟩ _ => no 0x45 .fixed
        | .valid ⟨none, _⟩ _ => job 0x45 (.setSite p)
        | .empty _ | .damaged => no 0x45 .wrongState)) ∧
    (∀ p mark, s.hears reqRecoverSerials = true → argRecover body = .ok (p, mark) → exec (.recoverSerials tag body) s =
      .next (if 0 < s.lbu.next ∧ mark < s.lbu.next then no 0x50 .outOfRange
        else if ¬ free then no 0x50 .busy
        else if s.sdu.site.state ≠ .damaged then no 0x50 .wrongState
        else match markFloor s.sdu.copies with
          | none => no 0x50 .storeFault
          | some floor => if mark < floor then no 0x50 .outOfRange else job 0x50 (.recoverSerials p mark)))) ∧
  (∀ (s : State) (tag : Byte), s.hears reqResetController = true →
    exec (.resetController tag []) s = .next (
      if s.sdu.hostInFlight.isSome = true ∨ s.sdu.reservationInFlight.isSome = true
      then s.replied tag 0x51 .busy []
      else (s.modLsv fun v => { v with resetPending := true }).replied tag 0x51 .ok []))

/-! ### The store's writes -/

/-- A write starts when none is in flight and no reset is pending, the reservation before the host job, with its entry
named by the marker and the write timer running; otherwise nothing changes (R171, R173, R176, R209; that a site write
leaves its mark copy until its end is the model's choice, log 52). The end of a
host job's write, reported or by the write timer's expiry as FAILED, for a job that is not a site write: the entry
holds the new contents, or is DAMAGED with a profile slot keeping the key, the marker is clear and the write timer
stopped, the slot is empty, the COMPLETION is placed, and the query of a profile written DONE is withdrawn (R74,
R167, R168, R169, R174, R191). SET SITE or RECOVER SERIALS ended FAILED leaves the site entry DAMAGED and the issue
block SITE_DAMAGED; the copy it was writing is left free (R135, R174, R175; log 14). A report of a write that is not
the one in flight, as after its timer has expired, is discarded (R174; that a report names its write is the model's
choice, log 42). -/
def Obligations.StoreWritesStartAndEnd : Prop :=
  (∀ s : State, s.onlyChanged s.startWrite [.store] ∧
    (s.sdu.hostInFlight.isSome = true ∨ s.sdu.reservationInFlight.isSome = true ∨ s.lsv.resetPending = true →
      s.startWrite = s) ∧
    (s.sdu.hostInFlight = none → s.sdu.reservationInFlight = none → s.lsv.resetPending = false →
      (∀ c holds, s.sdu.reservation = .waiting → s.sdu.site = .valid c holds → s.startWrite.sdu = { s.sdu with
        reservation := .inFlight { c with mark := c.mark + 100 }, marker := some .site, writeTimer := true,
        started := s.sdu.started + 1 }) ∧
      (∀ job, s.sdu.reservation = .empty → s.sdu.host = .waiting job → s.startWrite.sdu = { s.sdu with
        host := .inFlight job, marker := some job.write.entry, writeTimer := true, started := s.sdu.started + 1 }) ∧
      (s.sdu.reservation = .empty → s.sdu.host = .empty → s.startWrite = s))) ∧
  (∀ (s : State) (done : Bool) (job : HostJob) (d : Store), s.inReset = false → s.sdu.host = .inFlight job →
    s.sdu.reservation = .empty →
    (match job.write, done with
      | .profile i p, true => d = { s.sdu with profiles := s.sdu.profiles.set i ⟨some p.product, .valid p true⟩ }
      | .profile i p, false => d = { s.sdu with profiles := s.sdu.profiles.set i ⟨some p.product, .damaged⟩ }
      | .clearProfile i, true => d = { s.sdu with profiles := s.sdu.profiles.set i ⟨none, .empty true⟩ }
      | .clearProfile i, false => d = { s.sdu with
          profiles := s.sdu.profiles.set i ⟨s.sdu.profiles[i].key, .damaged⟩ }
      | .recipe i r, true => d = { s.sdu with recipes := s.sdu.recipes.set i (.valid r true) }
      | .recipe i _, false => d = { s.sdu with recipes := s.sdu.recipes.set i .damaged }
      | .clearRecipe i, true => d = { s.sdu with recipes := s.sdu.recipes.set i (.empty true) }
      | .clearRecipe i, false => d = { s.sdu with recipes := s.sdu.recipes.set i .damaged }
      | .timing v, true => d = { s.sdu with timing := .valid v true, inForce := v }
      | .timing _, false => d = { s.sdu with timing := .damaged }
      | .setSite _, _ => False
      | .recoverSerials _ _, _ => False) →
    let ended := (s.modSdu fun _ => { d with host := .empty, marker := none, writeTimer := false }).place
      (.completion job.number job.kind done s.now)
    let told := match job.write, done with
      | .profile _ p, true => ended.withdrawProfile p.product
      | _, _ => ended
    exec (.storeWriteReport ⟨s.sdu.started, done⟩) s = .next told.pump ∧
    (done = false → s.sdu.writeTimer = true → exec .writeTimerExpiry s = .next told.pump) ∧
    (done = false → s.sdu.writeTimer = false → exec .writeTimerExpiry s = .next s.pump)) ∧
  (∀ (s : State) (job : HostJob) (c : SiteData), s.inReset = false → s.sdu.host = .inFlight job →
    s.sdu.reservation = .empty → job.write.site = some c →
    let ended := ((((s.modSdu fun d => { d with marker := none, writeTimer := false }).partWrittenCopy c.mark).modSdu
      fun d => { d with site := .damaged, host := .empty }).place
        (.completion job.number job.kind false s.now)).modLbu fun l => { l with block := some .siteDamaged }
    exec (.storeWriteReport ⟨s.sdu.started, false⟩) s = .next ended.pump ∧
    (s.sdu.writeTimer = true → exec .writeTimerExpiry s = .next ended.pump)) ∧
  (∀ (s : State) (write : Nat) (done : Bool), s.inReset = false →
    write ≠ s.sdu.started ∨ (s.sdu.hostInFlight = none ∧ s.sdu.reservationInFlight = none) →
    exec (.storeWriteReport ⟨write, done⟩) s = .next s.pump)

/-- The low-water test: within 20 of reserved end, with no reservation in flight, no issue block and not exhausted, a
reservation is asked, or above the highest mark the numbers are exhausted with a STORE notice; otherwise nothing
(R134, R136; that the notice names the site entry is the model's choice, log 48). A reservation written DONE: the
mark written stands in the site entry and in a copy, reserved end is 100 higher, reservation in flight
clear, a record that waits for a serial is served, and the low-water test is made again (R133, R134, R174, R176). A
reservation that ends FAILED, or DONE on a site entry marked DAMAGED meanwhile: the site entry is DAMAGED, the issue
block SITE_DAMAGED, and the STORE notice reservation FAILED is made (R134, R172, R174; the copy written FAILED is
free, log 14). SET SITE or RECOVER SERIALS written DONE: the site entry presents the prefix and mark, next serial
and reserved end are the mark, the issue block is none, the low-water test is made, and a record that waits with a
serial begins its cycle (R133, R135, R175, R177). The copy written is one whose check word fails, copy 1 when both
fail, else the one with the lower write count, copy 1 when they are equal; it gets the mark and a write count one above
the other's, and a part-write damages at most it; the mark floor is the highest mark of a copy whose check word holds
(R175; what a part-write leaves is free, log 14; that a write count has no highest value and that the copy is written at
the end of the write is the model's choice, logs 46, 52). -/
def Obligations.SerialNumbersAreReserved : Prop :=
  (∀ s : State,
    let low := s.lbu.reservedEnd ≤ s.lbu.next + 20 ∧ s.lbu.inFlight = false ∧ s.lbu.block = none ∧
      s.lbu.exhausted = false
    (¬ low → s.lowWater = s) ∧
    (low → s.lbu.reservedEnd + 100 ≤ 100000000 →
      s.lowWater = ((s.modLbu fun l => { l with inFlight := true }).modSdu fun d => { d with
        reservation := .waiting }).startWrite) ∧
    (low → 100000000 < s.lbu.reservedEnd + 100 →
      s.lowWater = (s.modLbu fun l => { l with exhausted := true }).notify
        (.store .serialsExhausted .site none none s.lbu.next s.lbu.reservedEnd))) ∧
  (∀ (s : State) (c written : SiteData) (holds : Bool), s.inReset = false → s.sdu.reservation = .inFlight written →
    s.sdu.site = .valid c holds →
    exec (.storeWriteReport ⟨s.sdu.started, true⟩) s = .next (((((s.modSdu fun d => { d with
      site := .valid written true, copies := writeCopy written.mark .new d.copies, reservation := .empty,
      marker := none, writeTimer := false }).modLbu fun l => { l with
        inFlight := false, reservedEnd := l.reservedEnd + 100 }).serveSerial).lowWater).startWrite).pump) ∧
  (∀ (s : State) (written : SiteData) (done : Bool), s.inReset = false → s.sdu.reservation = .inFlight written →
    done = false ∨ s.sdu.site.state ≠ .valid →
    let stopped := s.modSdu fun d => { d with marker := none, writeTimer := false }
    let copied := if done then stopped.modSdu fun d => { d with copies := writeCopy written.mark .new d.copies }
      else stopped.partWrittenCopy written.mark
    let failed := ((copied.modSdu fun d => { d with site := .damaged, reservation := .empty }).modLbu fun l =>
      { l with inFlight := false, block := some .siteDamaged }).notify
        (.store .reservationFailed .site none none 0 0)
    exec (.storeWriteReport ⟨s.sdu.started, done⟩) s = .next failed.startWrite.pump ∧
    (done = false → s.sdu.writeTimer = true → exec .writeTimerExpiry s = .next failed.startWrite.pump)) ∧
  (∀ (s : State) (job : HostJob) (c : SiteData), s.inReset = false → s.sdu.host = .inFlight job →
    s.sdu.reservation = .empty → job.write.site = some c →
    exec (.storeWriteReport ⟨s.sdu.started, true⟩) s = .next ((((((s.modSdu fun d => { d with
      site := .valid c true, copies := writeCopy c.mark .new d.copies, host := .empty, marker := none,
      writeTimer := false }).place (.completion job.number job.kind true s.now)).modLbu fun l => { l with
        next := c.mark, reservedEnd := c.mark, block := none, exhausted := false }).lowWater).serveHeld).startWrite).pump) ∧
  (∀ s : State, (s.lbu.state ≠ .waitSerial → s.serveSerial = s ∧ s.serveHeld = s) ∧
    ∀ n p, s.lbu.state = .waitSerial → s.lbu.track = some n → s.pallet n = some p →
      (p.serial = none → s.serveHeld = s ∧
        (s.lbu.block = none → s.lbu.next < s.lbu.reservedEnd → s.serveSerial = State.beginCycle n
          ((s.putPallet n (some { p with serial := some s.lbu.next })).modLbu fun l =>
            { l with next := l.next + 1 }).lowWater) ∧
        (s.lbu.block.isSome = true ∨ s.lbu.reservedEnd ≤ s.lbu.next → s.serveSerial = s)) ∧
      (p.serial.isSome = true → s.serveSerial = s ∧ s.serveHeld = s.beginCycle n)) ∧
  (∀ (c : Pair MarkCopy) (mark : Nat),
    let first := c.fst.holds = false ∨ (c.snd.holds = true ∧ c.fst.count ≤ c.snd.count)
    (first → writeCopy mark .new c = { c with fst := ⟨mark, c.snd.count + 1, true⟩ } ∧
      writeCopy mark .broken c = { c with fst := { c.fst with holds := false } }) ∧
    (¬ first → writeCopy mark .new c = { c with snd := ⟨mark, c.fst.count + 1, true⟩ } ∧
      writeCopy mark .broken c = { c with snd := { c.snd with holds := false } }) ∧
    writeCopy mark .old c = c ∧
    markFloor c = (if c.fst.holds then some (if c.snd.holds then max c.fst.mark c.snd.mark else c.fst.mark)
      else if c.snd.holds then some c.snd.mark else none)) ∧
  ∀ (s : State) (mark : Nat), ∃ part, s.partWrittenCopy mark =
    { s.modSdu (fun d => { d with copies := writeCopy mark part d.copies }) with freeCount := s.freeCount + 1 }

/-! ### What the records' owners do to them -/

/-- A record rejected: REJECTED with the reason given and, at 3 checks, REWORK_LIMIT, its assignment released, the
PALLET notice REJECTED with its reasons; no other record changes (R5, R7, R14, R34). An ENTERING record that arrives
in SCAN is CHECKING with one check more, and the check is armed for it with fresh timers; any other is left (R51).
The record that arrives in DIV1 as the check track: ACCEPTED without reasons, HELD with overridable reasons and fewer
than 3 checks with the hold timer and its query, else REJECTED; the check is then IDLE; any other is left (R65,
R66). -/
def Obligations.CheckedRecordIsDecided : Prop :=
  (∀ (s : State) (n : TrackNo) (p : Pallet) (reason : Option Reason), s.pallet n = some p →
    let given := match reason with | some r => addReason r p.reasons | none => p.reasons
    let reasons := if p.attempts = 3 then addReason .reworkLimit given else given
    (s.reject n reason).pallet n = some { p with state := .rejected, reasons := reasons, assignment := none } ∧
    (∀ m, m ≠ n → (s.reject n reason).pallet m = s.pallet m) ∧
    (s.reject n reason).obk = (match p.assignment with
      | some a => s.modOrder a.order (Order.modLine a.line fun l => { l with assigned := l.assigned - 1 })
      | none => s).obk ∧
    (s.lku.notices.length < 32 → (s.reject n reason).lku.notices = s.lku.notices ++
      [⟨.pallet .rejected n (some .rejected) p.serial none false reasons, s.now, s.lku.gap⟩]) ∧
    s.onlyChanged (s.reject n reason) [.track, .book, .link]) ∧
  (∀ (s : State) (n : TrackNo) (p : Pallet), s.pallet n = some p →
    (p.state ≠ .entering → s.handOn .scan n = s) ∧
    (p.state = .entering → s.handOn .scan n =
      (s.putPallet n (some { p with state := .checking, attempts := p.attempts + 1 })).modCku fun c => { c with
        state := .capturing, weight := .armed, frame := .armed, weightTimer := .running s.sdu.inForce.weight,
        scanTimer := .running s.sdu.inForce.scan, track := some n, snapshot := none, rows := 0,
        counts := ⟨0, 0, 0, 0⟩, recipe := none, holdEnded := c.holdEnded.filter (· != n) })) ∧
  (∀ (s : State) (n : TrackNo), s.handOn .div1 n = s.decideAtDiv1 n ∧
    (s.cku.track ≠ some n → s.decideAtDiv1 n = s)) ∧
  (∀ (s : State) (n : TrackNo) (p : Pallet), s.cku.track = some n → s.pallet n = some p →
    let ended (u : State) : State := u.modCku fun c => { c with state := .idle, track := none, snapshot := none }
    (p.reasons = [] → s.decideAtDiv1 n = ended ((s.putPallet n (some { p with state := .accepted })).notify
      (.pallet .accepted n (some .accepted) p.serial p.assignment p.recipeMissing []))) ∧
    (p.reasons ≠ [] → (∀ r ∈ p.reasons, r.code ≤ 9) → p.attempts < 3 → s.decideAtDiv1 n = ended
      ((((s.modCku fun c => { c with
        holdTrack := some n, holdRecipe := c.recipe, holdTimer := .running s.sdu.inForce.hold }).putPallet n
          (some { p with state := .held })).notify (.pallet .held n (some .held) p.serial none false [])).ask
            (.holdDecision n p.reasons s.sdu.inForce.hold))) ∧
    (p.reasons ≠ [] → ((∃ r ∈ p.reasons, 9 < r.code) ∨ 3 ≤ p.attempts) → s.decideAtDiv1 n = ended (s.reject n none)))

/-- Allocation: a record without a tag, or whose candidates have no qualifying line, gets none; otherwise the order
chosen is live, has a line for the product with room, is the requested one when the tag requests one, and no
candidate order has a higher priority, or the same with a lower creation sequence; its line's assigned count rises
by one and the record's assignment names it (R31, R32). -/
def Obligations.AllocationChoosesByPriority : Prop :=
  (∀ (s : State) (n : TrackNo) (p : Pallet), s.pallet n = some p → p.tag = none → s.allocate n = none) ∧
  ∀ (s : State) (n : TrackNo) (p : Pallet) (t : Tag), s.pallet n = some p → p.tag = some t →
    let fits (o : Order) : Prop := o ∈ s.obk.orders ∧ o.state.live = true ∧ (∀ number, t.order = some number →
      o.number = number) ∧ ∃ l ∈ o.lines, l.product = t.product ∧ l.assigned < l.ordered
    (s.allocate n = none ↔ ∀ o, ¬ fits o) ∧
    ∀ u, s.allocate n = some u → ∃ o l, fits o ∧ l ∈ o.lines ∧ l.product = t.product ∧ l.assigned < l.ordered ∧
      (∀ q, fits q → q.priority < o.priority ∨ (q.priority = o.priority ∧ o.creationSeq.toNat ≤ q.creationSeq.toNat)) ∧
      u = (s.modOrder o.number (Order.modLine l.number fun l => { l with assigned := l.assigned + 1 })).putPallet n
        (some { p with assignment := some ⟨o.number, l.number⟩ })

/-- The manifest word: 0 at creation; each fold turns it left by one place and adds the running number, as the five rows
of the table show; and in every order it stays the fold of the running numbers of its dispatch list from 0, whatever
command is run (R42). -/
def Obligations.ManifestIsTheFoldOfTheList : Prop :=
  (∀ r seq, (NewOrder.record r seq).manifest = 0 ∧ (NewOrder.record r seq).dispatch = []) ∧
  (∀ (w : Word32) (serial : Nat), foldSerial w serial = w.rotateLeft 1 + BitVec.ofNat 32 serial) ∧
  (foldSerial 0 1000 = 1000 ∧ foldSerial 1000 1001 = 3001 ∧ foldSerial 3001 1002 = 7004 ∧
    foldSerial 0xC0000000 99999999 = 0x85F5E100 ∧ foldSerial 0xFFFFFFFF 1 = 0) ∧
  (∀ (o : Order) (line : Nat) (e : DispatchEntry), (Order.account line e o).dispatch = o.dispatch ++ [e] ∧
    (Order.account line e o).manifest = foldSerial o.manifest e.serial) ∧
  ∀ (c : Instr) (s t : State),
    (∀ o ∈ s.obk.orders, o.manifest = o.dispatch.foldl (fun w e => foldSerial w e.serial) 0) → exec c s = .next t →
    ∀ o ∈ t.obk.orders, o.manifest = o.dispatch.foldl (fun w e => foldSerial w e.serial) 0

/-- Release: the test of a lane, made at an arrival in its gate too, passes exactly when its gate is OCCUPIED by a
LABELLED record, not orphaned, assigned to the lane's order, the lane BOUND with its truck present, the order
unbonded or authorised, and the line RUNNING; a gate that is not OCCUPIED, a stranded record, whose assignment is
absent, and a record of another order are left (R157, R158). When it passes, the record is dispatched into the order and retired, and the gate is LEAVING with its drive on and its
output open (R40, R41, R97, R159). -/
def Obligations.ReleaseDispatchesThePallet : Prop :=
  (∀ (s : State) (g : Lane) (n : TrackNo), s.handOn (.gate g) n = s.testRelease g) ∧
  (∀ (s : State) (g : Lane),
    (s.occupant (.gate g) = none → s.testRelease g = s) ∧
    ∀ n, s.occupant (.gate g) = some n →
      (s.pallet n = none → s.testRelease g = s) ∧
      ∀ p, s.pallet n = some p →
        (p.orphaned = true ∨ p.assignment = none → s.testRelease g = s) ∧
        ∀ a, p.assignment = some a → (s.lane g).order ≠ some a.order ∨ s.order a.order = none →
          s.testRelease g = s) ∧
  ∀ (s : State) (g : Lane) (n : TrackNo) (p : Pallet) (a : Assignment) (o : Order), s.occupant (.gate g) = some n →
    s.pallet n = some p → p.assignment = some a → s.order a.order = some o → (s.lane g).order = some a.order →
    let passes := p.state = .labelled ∧ p.orphaned = false ∧ (s.lane g).state = .bound ∧ (s.lane g).truck = true ∧
      (o.bonded = false ∨ o.authority.isSome = true) ∧ s.lsv.line = .running
    (¬ passes → s.testRelease g = s) ∧
    (passes →
      let t := s.testRelease g
      let e : DispatchEntry := ⟨p.serial.getD 0, (p.tag.map (·.product)).getD 0, (p.tag.map (·.batch)).getD [], p.gross, s.now⟩
      let done := o.lines.map fun l => if l.number = a.line then { l with dispatched := l.dispatched + 1 } else l
      let complete := ∀ l ∈ done, l.dispatched = l.ordered
      t.pallet n = none ∧ (∀ m, m ≠ n → t.pallet m = s.pallet m) ∧
      t.zone (.gate g) = { ZoneRecord.free with
        eye := (s.zone (.gate g)).eye, state := .leaving, moveTimer := .running s.sdu.inForce.move, drive := true } ∧
      t.znc.gates[g] = true ∧
      (¬ complete → t.order a.order = some { o with
        lines := done, dispatch := o.dispatch ++ [e], manifest := foldSerial o.manifest e.serial }) ∧
      (complete → t.order a.order = some { o with
        lines := done, dispatch := o.dispatch ++ [e], manifest := foldSerial o.manifest e.serial, state := .complete }) ∧
      (∀ h, o.lane = some h → complete → (t.lane h).state = .done ∧ (t.lane h).minute = .stopped) ∧
      (¬ complete → t.lnu = s.lnu) ∧
      s.onlyChanged t [.track, .book, .check, .zones, .lanes, .link])

/-- A move that starts: the source is LEAVING to the destination with its timer running at the move timeout, the
destination RESERVED for the record, both drives on, the diverter or the route set; no other zone changes (R81).
Which moves start: none unless the line is RUNNING, and then the infeed-ready output is off; while RUNNING, a record
OCCUPIED in a zone with a free next zone goes on when its row of the move table holds, with discharge under way at
the start out of a wrapper and SORT's route given up at the start to its gate; a lone ready outfeed is granted MERGE
and a lone ready diverter SP-1 (R81, R85, R87, R90, R91, R92, R96, R98, R99). -/
def Obligations.MovesStartByTheTable : Prop :=
  (∀ (s : State) (src dst : Zone) (n : TrackNo), src ≠ dst →
    (s.startMove src dst n).zone src = { s.zone src with
      state := .leaving, partner := some dst, moveTimer := .running s.sdu.inForce.move, drive := true } ∧
    (s.startMove src dst n).zone dst = { s.zone dst with
      state := .reserved, record := some n, partner := some src, drive := true } ∧
    (∀ z, z ≠ src → z ≠ dst → (s.startMove src dst n).zone z = s.zone z) ∧
    (src = .div1 → (s.startMove src dst n).znc.div1Out = if dst = .feed then .straight else .spur) ∧
    (src ≠ .div1 → (s.startMove src dst n).znc.div1Out = s.znc.div1Out) ∧
    (src = .div2 → (s.startMove src dst n).znc.div2Out = if dst = .sort then .straight else .spur) ∧
    (src ≠ .div2 → (s.startMove src dst n).znc.div2Out = s.znc.div2Out) ∧
    (∀ g, src = .sort → dst = .gate g → (s.startMove src dst n).znc.routeOut = some g) ∧
    s.onlyChanged (s.startMove src dst n) [.zones]) ∧
  ((∀ s : State, s.onlyChanged s.settle [.zones, .wrappers] ∧
    (s.lsv.line ≠ .running → s.settle = s.modZnc fun u => { u with infeedReady := false })) ∧
  (∀ s : State, s.settle.znc.infeedReady = true ↔ s.lsv.line = .running ∧ (s.settle.zone .infeed).state = .free ∧
    (s.recordCount < 24 ∨ s.trt.offLine ≠ [])) ∧
  ∀ (s : State) (src dst : Zone) (n : TrackNo) (p : Pallet), s.lsv.line = .running → s.occupant src = some n →
    s.pallet n = some p → (s.zone dst).state = .free →
    ((src = .infeed ∧ dst = .scan ∧ p.state = .entering) ∨ (src = .div1 ∧ dst = .feed ∧ p.state = .accepted) ∨
      (src = .merge ∧ dst = .label) ∨ (src = .label ∧ dst = .div2 ∧ (p.state = .labelled ∨ p.state = .rejected)) ∨
      (src = .scan ∧ dst = .div1 ∧ s.cku.state = .done ∧ s.cku.track = some n) ∨
      (src = .div2 ∧ dst = .sp 0 ∧ p.state = .rejected) ∨ (src = .sp 0 ∧ dst = .sp 1) ∨
      (src = .sp 1 ∧ dst = .sp 2) ∨ (src = .sp 2 ∧ dst = .sp 3) ∨
      (∃ w, src = .wrap w ∧ dst = .out w ∧ (s.wrapper w).state = .discharging ∧ (s.wrapper w).load = .track n) ∨
      (∃ g, src = .sort ∧ dst = .gate g ∧ s.znc.route = some g) ∨
      (∃ w, src = .out w ∧ dst = .merge ∧ (p.state = .wrapped ∨ p.state = .rejected) ∧
        ∀ m q, s.occupant (.out w.other) = some m → s.pallet m = some q →
          q.state ≠ .wrapped ∧ q.state ≠ .rejected) ∨
      (src = .div1 ∧ dst = .sp 0 ∧ p.state = .rejected ∧
        ∀ m q, s.occupant .div2 = some m → s.pallet m = some q → q.state ≠ .rejected)) →
    (s.settle.zone src).state = .leaving ∧ (s.settle.zone src).partner = some dst ∧
      (s.settle.zone dst).state = .reserved ∧ (s.settle.zone dst).record = some n ∧
      (s.settle.zone dst).partner = some src ∧ (s.settle.zone src).drive = true ∧ (s.settle.zone dst).drive = true ∧
      (∀ w, src = .wrap w → s.settle.wrapper w = { s.wrapper w with dischargeUnderWay := true }) ∧
      (src = .sort → s.settle.znc.route = none ∧ ∀ g, dst = .gate g → s.settle.znc.routeOut = some g))

/-- The choices at moves, made when the moves are started: the splitter sends the ACCEPTED record in FEED to the wrapper
other than the last chosen, when that one is IDLE and its zone FREE, else to the last chosen one when it is, which is
then LOADING; MERGE takes the outfeed with the lower check sequence, OUT-A when equal; the spur takes DIV2's REJECTED
record before DIV1's; a record goes on to SORT with the route of its lane when its order is BOUND and that gate is
FREE, and otherwise stays in DIV2 (R89, R91, R93, R96, R98). DIV2's step at an arrival: an orphaned LABELLED record
is rejected with ORDER_ENDED, one whose order holds no lane starts the lane wait, any other is left (R93, R94, R95).
An arrival in IN, FEED, MERGE, SORT or the spur is handed to no block (R83). -/
def Obligations.ArbitersChoose : Prop :=
  (∀ (s : State), s.lsv.line = .running →
    let moves (src dst : Zone) (n : TrackNo) : Prop :=
      (s.settle.zone src).state = .leaving ∧ (s.settle.zone src).partner = some dst ∧
        (s.settle.zone dst).state = .reserved ∧ (s.settle.zone dst).record = some n ∧
        (s.settle.zone dst).partner = some src
    (∀ n p, s.occupant .feed = some n → s.pallet n = some p → p.state = .accepted →
      (∀ w, (w = s.znc.splitter.other ∨ (w = s.znc.splitter ∧ s.qualifies s.znc.splitter.other = false)) →
        s.qualifies w = true → moves .feed (.wrap w) n ∧ s.settle.znc.splitter = w ∧
          s.settle.wrapper w = { s.wrapper w with state := .loading, load := .track n }) ∧
      (s.qualifies .a = false → s.qualifies .b = false →
        s.settle.zone .feed = s.zone .feed ∧ s.settle.znc.splitter = s.znc.splitter)) ∧
    (∀ w, s.qualifies w = true ↔ (s.wrapper w).state = .idle ∧ (s.zone (.wrap w)).state = .free) ∧
    (∀ n m p q a b, (s.zone .merge).state = .free → s.occupant (.out .a) = some n → s.occupant (.out .b) = some m →
      s.pallet n = some p → s.pallet m = some q → (p.state = .wrapped ∨ p.state = .rejected) →
      (q.state = .wrapped ∨ q.state = .rejected) → p.checkSeq = some a → q.checkSeq = some b →
      (a.toNat ≤ b.toNat → moves (.out .a) .merge n) ∧ (b.toNat < a.toNat → moves (.out .b) .merge m)) ∧
    (∀ n m p q, (s.zone (.sp 0)).state = .free → s.occupant .div2 = some n → s.occupant .div1 = some m →
      s.pallet n = some p → s.pallet m = some q → p.state = .rejected → q.state = .rejected →
      moves .div2 (.sp 0) n ∧ s.settle.zone .div1 = s.zone .div1) ∧
    ∀ n p a o g, s.occupant .div2 = some n → s.pallet n = some p → p.state = .labelled → p.orphaned = false →
      p.assignment = some a → s.order a.order = some o → o.state = .bound → o.lane = some g →
      ((s.zone .sort).state = .free → (s.zone (.gate g)).state = .free →
        moves .div2 .sort n ∧ s.settle.znc.route = some g) ∧
      ((s.zone .sort).state ≠ .free ∨ (s.zone (.gate g)).state ≠ .free → s.settle.zone .div2 = s.zone .div2)) ∧
  (∀ (s : State) (n : TrackNo) (p : Pallet), s.occupant .div2 = some n → s.pallet n = some p →
    (p.state ≠ .labelled → s.handOn .div2 n = s) ∧
    (p.state = .labelled → p.orphaned = true → s.handOn .div2 n =
      (s.modZnc fun u => { u with laneWait := .stopped }).reject n (some .orderEnded)) ∧
    ∀ a o, p.state = .labelled → p.orphaned = false → p.assignment = some a → s.order a.order = some o →
      s.handOn .div2 n = if o.lane = none
        then s.modZnc fun u => { u with laneWait := .running s.sdu.inForce.laneWait } else s) ∧
  (∀ (s : State) (z : Zone) (n : TrackNo), z = .infeed ∨ z = .feed ∨ z = .merge ∨ z = .sort ∨ (∃ k, z = .sp k) →
    s.handOn z n = s)

/-- An interrupted move resolved at RESTART LINE by its eyes: source made and destination clear, the record stays
OCCUPIED in the source and the destination is FREE; source clear and destination made, the move ends in arrival;
otherwise both zones are UNCERTAIN with the ZONE notice. An interrupted departure leaves its gate UNTRACKED with its
eye made, else FREE. A move not interrupted is left (R101, R205). What an undone move is told to: a LOADING wrapper is
IDLE with load none again, a wrapper that discharges has discharge under way cleared, SORT has no route and DIV2 takes
its own step again, or takes it alone for a move to the spur; a move out of SORT gives SORT its route back; no other
move tells anything (R82, R93, R96, R101, R107, R119). -/
def Obligations.InterruptedMoveIsResolved : Prop :=
  ∀ (s : State) (src : Zone), (¬ ((s.zone src).state = .leaving ∧ (s.zone src).interrupted = true) →
      s.resolveMove src = s) ∧
    ((s.zone src).state = .leaving → (s.zone src).interrupted = true →
      (∀ dst n, src ≠ dst → (s.zone src).partner = some dst → (s.zone src).record = some n →
        ((s.zone src).eye = true → (s.zone dst).eye = false → s.resolveMove src = State.tellUndone src dst
          (((s.putZone src { ZoneRecord.free with eye := true, state := .occupied, record := some n }).modPallet n
            fun p => { p with location := some src }).putZone dst ZoneRecord.free)) ∧
        ((s.zone src).eye = false → (s.zone dst).eye = true → s.resolveMove src = State.handOn dst n
          (((s.putZone src ZoneRecord.free).putZone dst { ZoneRecord.free with
            eye := true, state := .occupied, record := some n }).modPallet n fun p => { p with location := some dst })) ∧
        ((s.zone src).eye = (s.zone dst).eye → s.resolveMove src = ((s.putZone src { s.zone src with
          state := .uncertain, interrupted := false, moveTimer := .stopped, drive := false }).putZone dst
            { s.zone dst with state := .uncertain, interrupted := false, moveTimer := .stopped, drive := false }).notify
              (.zone .uncertain src (some dst) (some n) none))) ∧
      ((s.zone src).record = none →
        ((s.zone src).eye = true → s.resolveMove src =
          (s.putZone src { ZoneRecord.free with eye := true, state := .untracked }).notify
            (.zone .untracked src none none (some .restart))) ∧
        ((s.zone src).eye = false → s.resolveMove src = s.putZone src ZoneRecord.free))) ∧
    (∀ w, s.tellUndone .feed (.wrap w) = if (s.wrapper w).state = .loading
      then s.putWrapper w { s.wrapper w with state := .idle, load := .none } else s) ∧
    (∀ w v, s.tellUndone (.wrap w) (.out v) = s.putWrapper w { s.wrapper w with dischargeUnderWay := false }) ∧
    (∀ n, s.tellUndone .div2 .sort = (s.modZnc fun u => { u with route := none }).handOn .div2 n ∧
      ∀ dst, dst ≠ .sort → s.tellUndone .div2 dst = s.handOn .div2 n) ∧
    (∀ g, s.tellUndone .sort (.gate g) = s.modZnc fun u => { u with route := some g }) ∧
    ∀ dst, ¬ (src = .feed ∧ ∃ w, dst = .wrap w) → ¬ ((∃ w, src = .wrap w) ∧ ∃ v, dst = .out v) → src ≠ .div2 →
      ¬ (src = .sort ∧ ∃ g, dst = .gate g) → s.tellUndone src dst = s

/-! ### Eyes and tags -/

/-- An eye made, taken: in a FREE IN the tag wait begins with its timer; in any other FREE zone the zone is UNTRACKED by
a stray with its ZONE notice; in a RESERVED zone whose move is not interrupted the move ends in arrival, the source
FREE when its own eye is clear; in every other case, and when it is made already, only the eye is recorded (R9, R80,
R83). An eye cleared, taken: at IN while it awaits the tag the wait ends and IN is FREE; at a gate LEAVING in a
departure not interrupted the departure ends with the gate FREE, its drive off and its output closed; in every other
case the eye is recorded (R9, R80, R97). An eye change that comes in POWER_UP or in reset writes its input and
nothing else (R208, R210). -/
def Obligations.EyesAreTaken : Prop :=
  (∀ (s : State) (z : Zone), s.inReset = false → s.taking = true →
    let pinned := s.modPins fun p => { p with eyes := p.eyes.set z.idx true }
    let seen := pinned.putZone z { s.zone z with eye := true }
    ((s.zone z).eye = true → exec (.eyeMade z) s = .next pinned.settle.pump) ∧
    ((s.zone z).eye = false →
      ((s.zone z).state = .free → exec (.eyeMade z) s = .next (if z = .infeed
        then ((pinned.putZone z { ZoneRecord.free with eye := true, state := .awaitingTag }).modTrt fun t =>
          { t with tagTimer := .running s.sdu.inForce.tag }).settle.pump
        else ((pinned.putZone z { ZoneRecord.free with eye := true, state := .untracked }).notify
          (.zone .untracked z none none (some .stray))).settle.pump)) ∧
      (∀ n src, (s.zone z).state = .reserved → (s.zone z).interrupted = false → (s.zone z).record = some n →
        (s.zone z).partner = some src → src ≠ z → (s.zone src).eye = false → exec (.eyeMade z) s = .next
          ((((pinned.putZone src ZoneRecord.free).putZone z { ZoneRecord.free with
            eye := true, state := .occupied, record := some n }).modPallet n fun p =>
              { p with location := some z }).handOn z n).settle.pump) ∧
      ((s.zone z).state ≠ .free → ((s.zone z).state ≠ .reserved ∨ (s.zone z).interrupted = true) →
        exec (.eyeMade z) s = .next seen.settle.pump))) ∧
  (∀ (s : State) (z : Zone), s.inReset = false → s.taking = true →
    let pinned := s.modPins fun p => { p with eyes := p.eyes.set z.idx false }
    ((s.zone z).eye = false → exec (.eyeCleared z) s = .next pinned.settle.pump) ∧
    ((s.zone z).eye = true →
      ((s.zone z).state = .awaitingTag → exec (.eyeCleared z) s =
        .next ((pinned.putZone z ZoneRecord.free).modTrt fun t => { t with tagTimer := .stopped }).settle.pump) ∧
      (∀ g, z = .gate g → (s.zone z).state = .leaving → (s.zone z).record = none → (s.zone z).interrupted = false →
        exec (.eyeCleared z) s = .next ((pinned.putZone z ZoneRecord.free).modZnc fun u =>
          { u with gates := u.gates.set g false }).settle.pump) ∧
      ((s.zone z).state ≠ .awaitingTag →
        ¬ (∃ g, z = .gate g ∧ (s.zone z).state = .leaving ∧ (s.zone z).record = none ∧ (s.zone z).interrupted = false) →
        exec (.eyeCleared z) s = .next (pinned.putZone z { s.zone z with eye := false }).settle.pump))) ∧
  (∀ (s : State) (z : Zone) (n : Lane) (a b c : Bool), s.inReset = true ∨ s.lsv.line = .powerUp →
    exec (.eyeMade z) s = .next (s.modPins fun p => { p with eyes := p.eyes.set z.idx true }) ∧
    exec (.eyeCleared z) s = .next (s.modPins fun p => { p with eyes := p.eyes.set z.idx false }) ∧
    exec (.truckPresentChange n a) s = .next (s.modPins fun p => { p with trucks := p.trucks.set n a }) ∧
    exec (.keySwitchChange a b c) s =
      .next (s.modPins fun p => { p with keyRun := a, keySetup := b, keyService := c }) ∧
    exec .chainOpens s = .next (s.modPins fun p => { p with chainOpen := true }) ∧
    exec .chainCloses s = .next (s.modPins fun p => { p with chainOpen := false }) ∧
    (∀ read, exec (.tagRead read) s = .next s) ∧ (∀ w stable, exec (.weightReading w stable) s = .next s) ∧
    exec .frameBegin s = .next s ∧ (∀ row cells, exec (.scanRow row cells) s = .next s) ∧ exec .frameEnd s = .next s)

/-- At IN awaiting the tag, a tag read or the expiry of its timer: the timer stops; the oldest OFF_LINE record of the
same product and batch is re-used, keeping its number, attempts, serial and created time; else the lowest free
number gets a new ENTERING record; with the track full no record changes and IN is UNTRACKED, its eye kept, with a ZONE
notice of the cause TRACK_FULL, and nothing else but the moves that start. A tag with a field out
of its range counts as no tag, and an expiry has none (R1, R3, R10, R12, R13, R16). A tag read while IN is not
awaiting one, and an expiry of a stopped tag timer, change no record (R11). The tag of the record that now stands at
IN is handed to the check: where its product has no VALID profile whose check word holds, one PROFILE_WANTED query
is made for the product, and the record joins its waiters; a VALID profile whose check word fails becomes DAMAGED with
its STORE notice (R72, R165). -/
def Obligations.TagsIdentifyPallets : Prop :=
  (∀ (s : State) (read : Option TagFields), s.inReset = false → s.taking = true → (s.zone .infeed).state = .awaitingTag →
    ∀ (c : Instr) (tag : Option Tag),
      (c = .tagRead read ∧ tag = read.bind TagFields.tag) ∨
        (c = .tagTimerExpiry ∧ tag = none ∧ s.trt.tagTimer.isRunning = true) →
    ∃ t, exec c s = .next t ∧ t.trt.tagTimer = .stopped ∧ t.trt.checkSeq = s.trt.checkSeq ∧
      s.onlyChanged t [.track, .check, .zones, .wrappers, .store, .link] ∧
      (∀ n, (t.zone .infeed).record = some n → ∃ u : State, t = (u.wantProfile n).settle.pump ∧
        (u.pallet n).map (·.tag) = some tag ∧ s.onlyChanged u [.track, .check, .zones] ∧
        u.cku.waiters = s.cku.waiters) ∧
      (∀ g n p, tag = some g → s.trt.offLine.find? (fun m => match (s.pallet m).bind (·.tag) with
          | some q => q.product == g.product && q.batch == g.batch
          | none => false) = some n → s.pallet n = some p →
        t.trt.offLine = s.trt.offLine.filter (· != n) ∧ (t.zone .infeed).record = some n ∧
        (∀ m, m ≠ n → t.pallet m = s.pallet m) ∧
        t.pallet n = some {
          tag := some g, state := .entering, location := some .infeed, attempts := p.attempts, checkSeq := none,
          gross := none, profile := none, reasons := [], assignment := none, orphaned := false, plan := none,
          recipeMissing := false, wrapper := none, passesDone := 0, serial := p.serial,
          faces := ⟨⟨.notDone, 0⟩, ⟨.notDone, 0⟩⟩, created := p.created, verdictTime := none, labelledTime := none }) ∧
      ((∀ g, tag = some g → ∀ m ∈ s.trt.offLine, ∀ q, (s.pallet m).bind (·.tag) = some q →
          q.product = g.product → q.batch ≠ g.batch) →
        t.trt.offLine = s.trt.offLine ∧
        (∀ n, s.pallet n = none → (∀ m, m < n → s.pallet m ≠ none) →
          (t.zone .infeed).record = some n ∧ (∀ m, m ≠ n → t.pallet m = s.pallet m) ∧
          t.pallet n = some {
            tag := tag, state := .entering, location := some .infeed, attempts := 0, checkSeq := none,
            gross := none, profile := none, reasons := [], assignment := none, orphaned := false, plan := none,
            recipeMissing := false, wrapper := none, passesDone := 0, serial := none,
            faces := ⟨⟨.notDone, 0⟩, ⟨.notDone, 0⟩⟩, created := s.now, verdictTime := none, labelledTime := none }) ∧
        ((∀ n, s.pallet n ≠ none) → t.trt.pallets = s.trt.pallets ∧ (t.zone .infeed).state = .untracked ∧
          t = (((s.modTrt fun r => { r with tagTimer := .stopped }).putZone .infeed
            { ZoneRecord.free with eye := (s.zone .infeed).eye, state := .untracked }).notify
              (.zone .untracked .infeed none none (some .trackFull))).settle.pump))) ∧
  (∀ (s : State) (read : Option TagFields), s.inReset = false → s.taking = true →
    ((s.zone .infeed).state ≠ .awaitingTag → exec (.tagRead read) s = .next s.settle.pump) ∧
    (s.trt.tagTimer = .stopped → exec .tagTimerExpiry s = .next s.settle.pump)) ∧
  (∀ (s : State) (n : TrackNo) (p : Pallet), s.pallet n = some p →
    (p.tag = none → s.wantProfile n = s) ∧
    ∀ g, p.tag = some g →
      let wanted (u : State) : State := if s.profileAsked g.product = true
        then u.modCku fun c => { c with waiters := c.waiters.map fun w =>
          if w.product = g.product ∧ n ∉ w.tracks then { w with tracks := w.tracks ++ [n] } else w }
        else (u.ask (.profileWanted g.product n)).modCku fun c =>
          { c with waiters := c.waiters ++ [⟨g.product, [n]⟩] }
      (s.sdu.slotOf g.product = none → s.wantProfile n = wanted s) ∧
      ∀ i, s.sdu.slotOf g.product = some i →
        (∀ f, s.sdu.profiles[i].entry = .valid f true → s.wantProfile n = s) ∧
        ((∃ holds, s.sdu.profiles[i].entry = .empty holds) ∨ s.sdu.profiles[i].entry = .damaged →
          s.wantProfile n = wanted s) ∧
        (∀ f, s.sdu.profiles[i].entry = .valid f false → s.wantProfile n = wanted
          ((s.modSdu fun d => { d with profiles := d.profiles.set i { d.profiles[i] with entry := .damaged } }).notify
            (.store .damaged (.profile i) s.sdu.profiles[i].key none 0 0))))

/-! ### The check -/

/-- The weight timer's expiry while weight capture is ARMED and the timer runs: NO_WEIGHT is among the record's reasons,
weight capture is TIMED_OUT, the gross weight stays as it was; a timer that is stopped does not expire; of the
expiry and a stable reading the first decides (R53). -/
def Obligations.WeightTimesOut : Prop :=
  ∀ (s : State) (n : TrackNo) (p : Pallet), s.inReset = false → s.taking = true → s.cku.track = some n →
    s.pallet n = some p → s.cku.weight = .armed →
    (s.cku.weightTimer.isRunning = true → ∃ t q, exec .weightTimerExpiry s = .next t ∧ t.pallet n = some q ∧
      .noWeight ∈ q.reasons ∧ q.gross = p.gross ∧ t.cku.weight = .timedOut ∧ t.cku.weightTimer = .stopped ∧
      (∀ m, m ≠ n → t.pallet m = s.pallet m) ∧ s.onlyChanged t [.track, .book, .check, .zones, .wrappers, .store, .link] ∧
      ∀ weight stable, ∃ u r, exec (.weightReading weight stable) t = .next u ∧ u.pallet n = some r ∧
        r.gross = p.gross ∧ r.reasons = q.reasons) ∧
    (s.cku.weightTimer = .stopped → exec .weightTimerExpiry s = .next s.settle.pump) ∧
    (∀ weight : Nat, weight ≤ 30000 → ∃ t q, exec (.weightReading weight true) s = .next t ∧ t.pallet n = some q ∧
      q.gross = some weight ∧ t.cku.weight = .taken ∧ t.cku.weightTimer = .stopped ∧
      ∃ u r, exec .weightTimerExpiry t = .next u ∧ u.pallet n = some r ∧ r.reasons = q.reasons)

/-- A weight reading that is not stable, below 0 or above 3,000.0 kg, or while weight capture is not ARMED, is
discarded; the first stable one in range is taken with the verdict tried after it (R52). -/
def Obligations.WeightIsTaken : Prop :=
  ∀ (s : State) (weight : Int) (stable : Bool), s.inReset = false → s.taking = true →
    exec (.weightReading weight stable) s = .next (
      if s.cku.weight = .armed ∧ stable = true ∧ 0 ≤ weight ∧ weight ≤ 30000 then
        (((match s.cku.track with
            | some n => s.modPallet n fun p => { p with gross := some weight.toNat }
            | none => s).modCku fun c => { c with weight := .taken, weightTimer := .stopped }).tryVerdict).settle.pump
      else s.settle.pump)

/-- A frame begin by frame capture: ARMED opens the frame with the heads inhibited and no rows, takes the profile of the
record's product as the snapshot, and ends it at once without a tag, without a profile (NO_PROFILE) or with a
DAMAGED one (REFERENCE_DAMAGED), one whose check word fails being marked so with its STORE notice; OPEN ends the
open frame with SCAN_SHORT and its result; otherwise a STRAY_FRAME notice (R54, R55, R165; that the frame so ended
gets no SCAN_FAULT for its invalid cells is read from R54, log 21). -/
def Obligations.FrameBegins : Prop :=
  ∀ s : State, s.inReset = false → s.taking = true →
    let opened := s.modCku fun c => { c with
      frame := .isOpen, frameInhibit := c.headInhibit, rows := 0, counts := ⟨0, 0, 0, 0⟩ }
    let closed (u : State) : State :=
      ((u.modCku fun c => { c with frame := .ended, scanTimer := .stopped }).tryVerdict).settle.pump
    (∀ n p, s.cku.frame = .armed → s.cku.track = some n → s.pallet n = some p →
      (p.tag = none → exec .frameBegin s = .next (closed opened)) ∧
      ∀ g, p.tag = some g →
        (s.sdu.slotOf g.product = none → exec .frameBegin s = .next (closed (opened.addReasonTo n .noProfile))) ∧
        ∀ i, s.sdu.slotOf g.product = some i →
          (∀ f, s.sdu.profiles[i].entry = .valid f true → exec .frameBegin s =
            .next (opened.modCku fun c => { c with snapshot := some f, recipe := some f.recipe }).settle.pump) ∧
          (s.sdu.profiles[i].entry = .damaged →
            exec .frameBegin s = .next (closed (opened.addReasonTo n .referenceDamaged))) ∧
          (∀ f, s.sdu.profiles[i].entry = .valid f false → exec .frameBegin s = .next (closed
            (((opened.modSdu fun d => { d with profiles := d.profiles.set i { d.profiles[i] with entry := .damaged } }).notify
              (.store .damaged (.profile i) s.sdu.profiles[i].key none 0 0)).addReasonTo n .referenceDamaged)))) ∧
    (∀ n f, s.cku.frame = .isOpen → s.cku.track = some n → s.cku.snapshot = some f → exec .frameBegin s =
      .next (closed ((s.modPallet n fun p => { p with profile := some ⟨s.cku.counts.overs, s.cku.counts.unders,
        s.cku.counts.invalid, s.cku.counts.highest, s.cku.frameInhibit.any, s.isPart f⟩ }).addReasonTo n .scanShort))) ∧
    (s.cku.frame = .ended ∨ s.cku.frame = .timedOut ∨ s.cku.frame = .off → exec .frameBegin s =
      .next (s.notify (.station .strayFrame .scanner none none none none 0)).settle.pump)

/-- One cell of a row, counted by the table: above 2,500 an invalid cell of the window; else it raises the highest
height, and in the window it is over above the reference by more than the over tolerance, under below it by more
than the under tolerance on a pallet that is no part pallet (R57). A row of an open frame: the next row below 48 is
counted with the columns of the inhibited heads left out, its reference row the one of the window; any other row
number ends the frame with a row fault. A row while no frame is open is discarded (R56; a number above 47 is a row
fault by log 22). -/
def Obligations.RowsAreCounted : Prop :=
  (∀ (f : Profile) (part : Bool) (reference : Option Nat) (value : Nat) (c : Counts),
    c.cell f part reference value =
      { overs := c.overs + (match reference with
          | some h => if value ≤ 2500 ∧ h + f.overTolerance < value then 1 else 0
          | none => 0)
        unders := c.unders + (match reference with
          | some h => if value ≤ 2500 ∧ ¬ h + f.overTolerance < value ∧ value + f.underTolerance < h ∧ part = false
            then 1 else 0
          | none => 0)
        invalid := c.invalid + if 2500 < value ∧ reference.isSome = true then 1 else 0
        highest := if value ≤ 2500 then max c.highest value else c.highest }) ∧
  (∀ (s : State) (row : Nat) (cells : List Word16), s.inReset = false → s.taking = true →
    (s.cku.frame ≠ .isOpen → exec (.scanRow row cells) s = .next s.settle.pump) ∧
    ∀ n f, s.cku.frame = .isOpen → s.cku.snapshot = some f → s.cku.track = some n →
      (row = s.cku.rows → row < 48 → exec (.scanRow row cells) s = .next (s.modCku fun c => { c with
        rows := c.rows + 1
        counts := cells.zipIdx.foldl (fun k v =>
          if (if v.2 < 4 then c.frameInhibit.h1 else if v.2 < 8 then c.frameInhibit.h2
              else if v.2 < 12 then c.frameInhibit.h3 else c.frameInhibit.h4) then k
          else k.cell f (s.isPart f) (if f.windowStart ≤ row ∧ row ≤ f.windowStart + 19
            then some (f.grid.getD (16 * (row - f.windowStart) + v.2) 0) else none) v.1.toNat) c.counts }).settle.pump) ∧
      (row ≠ s.cku.rows ∨ 48 ≤ row → exec (.scanRow row cells) s = .next (s.endFrame true).settle.pump))

/-- The end of an open frame, by a frame end, by a row fault or by the scan timer: the profile result is written,
SCAN_FAULT added for more than 32 invalid cells or a row fault, SCAN_SHORT when the window was not received whole,
frame capture ENDED with the scan timer stopped, and the verdict tried. The scan timer's expiry while ARMED adds
NO_SCAN. A frame end while no frame is open is discarded (R58, R59). -/
def Obligations.FrameEnds : Prop :=
  ∀ s : State, s.inReset = false → s.taking = true →
    (s.cku.frame ≠ .isOpen → exec .frameEnd s = .next s.settle.pump) ∧
    (∀ n, s.cku.frame = .armed → s.cku.track = some n → s.cku.scanTimer.isRunning = true → exec .scanTimerExpiry s =
      .next (((s.addReasonTo n .noScan).modCku fun c => { c with
        frame := .timedOut, scanTimer := .stopped }).tryVerdict).settle.pump) ∧
    ∀ n f, s.cku.frame = .isOpen → s.cku.snapshot = some f → s.cku.track = some n →
      let ended (rowFault : Bool) : State :=
        let written := s.modPallet n fun p => { p with profile := some ⟨s.cku.counts.overs, s.cku.counts.unders,
          s.cku.counts.invalid, s.cku.counts.highest, s.cku.frameInhibit.any, s.isPart f⟩ }
        let faulted := if 32 < s.cku.counts.invalid ∨ rowFault = true then written.addReasonTo n .scanFault else written
        let short := if s.cku.rows < f.windowStart + 20 then faulted.addReasonTo n .scanShort else faulted
        (short.modCku fun c => { c with frame := .ended, scanTimer := .stopped }).tryVerdict
      s.endFrame true = ended true ∧
      exec .frameEnd s = .next (ended false).settle.pump ∧
      (s.cku.scanTimer.isRunning = true → exec .scanTimerExpiry s = .next (ended false).settle.pump)

/-- The verdict: taken when weight and frame results are both in and not before; the record gets the next check sequence
and the verdict time, NO_TAG without a tag, the weight reasons against tare plus units times unit weight with a
bound itself passing, and the check is DONE (R2, R60, R61): that for a frame that was taken. The whole of it, with a frame
and without one: NO_TAG alone without a tag; the weight reasons against the snapshot, or without a frame against the
profile as it stands, whose recipe number becomes the check's; NO_PROFILE without a frame when the product has no VALID
profile whose check word holds, one that fails becoming DAMAGED with its notice; OVERHANG, UNDERFILL and OVER_HEIGHT for
counts above their limits in a whole frame, one without SCAN_FAULT and SCAN_SHORT; then for a record without reasons the
allocation with the copy of the plan, or NO_DEMAND; then the record waits for no profile any more (R58, R61, R62, R63,
R72, R165). The copy of the plan: recipe number 0 gives the empty plan, a VALID recipe whose check word holds is copied,
any other gives the empty plan with recipe missing, one whose check word fails becoming DAMAGED with its notice (R64,
R165; no recipe number counts as 0, log 35). -/
def Obligations.VerdictIsTaken : Prop :=
  (∀ (s : State) (n : TrackNo) (p : Pallet), s.cku.state = .capturing → s.cku.track = some n → s.pallet n = some p →
    ((s.cku.weight = .armed ∨ s.cku.weight = .off ∨ s.cku.frame = .armed ∨ s.cku.frame = .isOpen ∨ s.cku.frame = .off) →
      s.tryVerdict = s) ∧
    ((s.cku.weight = .taken ∨ s.cku.weight = .timedOut) → s.cku.frame = .ended →
      ∃ q, s.tryVerdict.pallet n = some q ∧ s.tryVerdict.cku.state = .done ∧
        s.tryVerdict.trt.checkSeq = s.trt.checkSeq + 1 ∧ q.checkSeq = some (s.trt.checkSeq + 1) ∧
        q.verdictTime = some s.now ∧ q.state = p.state ∧ q.gross = p.gross ∧ q.attempts = p.attempts ∧
        (∀ m, m ≠ n → s.tryVerdict.pallet m = s.pallet m) ∧
        s.onlyChanged s.tryVerdict [.track, .book, .check, .store, .link] ∧
        (p.tag = none → q.reasons = addReason .noTag p.reasons) ∧
        ∀ g f w, p.tag = some g → s.cku.snapshot = some f → p.gross = some w →
          (w + f.tolerance < f.tare + g.units * f.unitWeight → .weightLow ∈ q.reasons) ∧
          (f.tare + g.units * f.unitWeight + f.tolerance < w → .weightHigh ∈ q.reasons) ∧
          (f.tare + g.units * f.unitWeight ≤ w + f.tolerance → w ≤ f.tare + g.units * f.unitWeight + f.tolerance →
            (.weightLow ∈ q.reasons ↔ .weightLow ∈ p.reasons) ∧ (.weightHigh ∈ q.reasons ↔ .weightHigh ∈ p.reasons)))) ∧
  (∀ (s : State) (n : TrackNo) (p : Pallet), s.cku.state = .capturing → s.cku.track = some n → s.pallet n = some p →
    (s.cku.weight = .taken ∨ s.cku.weight = .timedOut) →
    let counted := (s.modTrt fun t => { t with checkSeq := t.checkSeq + 1 }).putPallet n (some { p with
      checkSeq := some (s.trt.checkSeq + 1), verdictTime := some s.now })
    let decided (rs : List Reason) (u : State) : State :=
      let v := rs.foldl (fun v r => v.addReasonTo n r) u
      let w := match v.pallet n with
        | some q => if q.reasons = [] then (match v.allocate n with
            | some x => x.copyPlan n v.cku.recipe
            | none => v.addReasonTo n .noDemand) else v
        | none => v
      (w.modCku fun c => { c with state := .done }).stopWaiting n
    let weighed (f : Profile) (units : Nat) : List Reason := match p.gross with
      | some w => (if w + f.tolerance < f.tare + units * f.unitWeight then [.weightLow] else []) ++
          (if f.tare + units * f.unitWeight + f.tolerance < w then [.weightHigh] else [])
      | none => []
    let measured (f : Profile) : List Reason := match p.profile with
      | some r => if .scanFault ∈ p.reasons ∨ .scanShort ∈ p.reasons then []
          else (if f.overLimit < r.overs then [.overhang] else []) ++
            (if f.underLimit < r.unders then [.underfill] else []) ++
            (if f.highestAllowed < r.highest then [.overHeight] else [])
      | none => []
    (s.cku.frame = .ended ∨ s.cku.frame = .timedOut → p.tag = none → s.tryVerdict = decided [.noTag] counted) ∧
    ∀ g, p.tag = some g →
      (s.cku.frame = .ended → s.cku.snapshot = none → s.tryVerdict = decided [] counted) ∧
      (∀ f, s.cku.frame = .ended → s.cku.snapshot = some f →
        s.tryVerdict = decided (weighed f g.units ++ measured f) counted) ∧
      (s.cku.frame = .timedOut →
        (s.sdu.slotOf g.product = none → s.tryVerdict = decided [.noProfile] counted) ∧
        ∀ i, s.sdu.slotOf g.product = some i →
          (∀ f, s.sdu.profiles[i].entry = .valid f true → s.tryVerdict = decided (weighed f g.units)
            (counted.modCku fun c => { c with recipe := some f.recipe })) ∧
          ((∃ holds, s.sdu.profiles[i].entry = .empty holds) ∨ s.sdu.profiles[i].entry = .damaged →
            s.tryVerdict = decided [.noProfile] counted) ∧
          (∀ f, s.sdu.profiles[i].entry = .valid f false → s.tryVerdict = decided [.noProfile]
            ((counted.modSdu fun d => { d with
              profiles := d.profiles.set i { d.profiles[i] with entry := .damaged } }).notify
                (.store .damaged (.profile i) s.sdu.profiles[i].key none 0 0))))) ∧
  ∀ (s : State) (n : TrackNo) (p : Pallet), s.pallet n = some p →
    (s.copyPlan n none = s.putPallet n (some { p with plan := none }) ∧
      s.copyPlan n (some 0) = s.putPallet n (some { p with plan := none })) ∧
    ∀ i : Fin 16,
      (∀ r, s.sdu.recipes[i] = .valid r true →
        s.copyPlan n (some (i.val + 1)) = s.putPallet n (some { p with plan := some r })) ∧
      ((∃ holds, s.sdu.recipes[i] = .empty holds) ∨ s.sdu.recipes[i] = .damaged →
        s.copyPlan n (some (i.val + 1)) = s.putPallet n (some { p with plan := none, recipeMissing := true })) ∧
      (∀ r, s.sdu.recipes[i] = .valid r false → s.copyPlan n (some (i.val + 1)) =
        ((s.modSdu fun d => { d with recipes := d.recipes.set i .damaged }).notify
          (.store .damaged (.recipe i) none none 0 0)).putPallet n (some { p with plan := none, recipeMissing := true }))

/-! ### Timers of the zones -/

/-- The expiry of a move timer jams its pair, both zones holding the record with their drives off, with the ZONE notice;
a gate departure that times out leaves the gate UNTRACKED, closed, with its notice; the lane wait's expiry rejects
the LABELLED record at DIV2 with NO_LANE; a timer that does not run does nothing (R84, R94, R97). -/
def Obligations.ZoneTimersExpire : Prop :=
  ∀ s : State, s.inReset = false →
    (∀ src dst, src ≠ dst → (s.zone src).state = .leaving → (s.zone src).partner = some dst →
      ((s.zone src).moveTimer.isRunning = true → exec (.moveTimerExpiry src) s = .next
        (((s.putZone src { s.zone src with
          state := .jammed, interrupted := false, moveTimer := .stopped, drive := false }).putZone dst
            { s.zone dst with state := .jammed, interrupted := false, moveTimer := .stopped, drive := false }).notify
              (.zone .jammed src (some dst) (s.zone src).record none)).pump) ∧
      ((s.zone src).moveTimer = .stopped → exec (.moveTimerExpiry src) s = .next s.pump)) ∧
    (∀ g : Lane, (s.zone (.gate g)).state = .leaving → (s.zone (.gate g)).record = none →
      (s.zone (.gate g)).moveTimer.isRunning = true → exec (.departureTimeout g) s = .next
        (((s.putZone (.gate g) { ZoneRecord.free with eye := (s.zone (.gate g)).eye, state := .untracked }).modZnc
          fun u => { u with gates := u.gates.set g false }).notify
            (.zone .untracked (.gate g) none none (some .departureTimeout))).pump) ∧
    (∀ g : Lane, (s.zone (.gate g)).moveTimer = .stopped → exec (.departureTimeout g) s = .next s.pump) ∧
    (s.znc.laneWait.isRunning = true → ∀ n p, s.occupant .div2 = some n → s.pallet n = some p → p.state = .labelled →
      exec .laneWaitTimerExpiry s =
        .next (((s.modZnc fun u => { u with laneWait := .stopped }).reject n (some .noLane)).settle.pump)) ∧
    (s.znc.laneWait = .stopped → exec .laneWaitTimerExpiry s = .next s.settle.pump)

/-! ### Lanes and their inputs -/

/-- The minute timer's expiry on a BOUND lane whose timer runs: with minutes left, remaining falls by one, a full minute
starts and the warning is made when the setting is reached; at the last minute the lane is ENDED with cause CUT_OFF
and its order CUT_OFF with no record naming it, LANE ENDED before ORDER CUT_OFF. On any other lane, or a held or
stopped timer, nothing (R38, R39, R151, R152, R155). Of the records the cut-off orphans, the LABELLED one at DIV2 and the
LABELLED one in LABEL are REJECTED with ORDER_ENDED, and the one that waits for its serial is given to another live order
or REJECTED so (R37, R95, R131, R143). A truck-present change is written into the lane in every lane
state, and becoming active makes the release test of that lane (R148). -/
def Obligations.LaneInputsAndMinutes : Prop :=
  (∀ (s : State) (n : Lane), s.inReset = false →
    ((s.lane n).state ≠ .bound ∨ (∀ left, (s.lane n).minute ≠ .running left) →
      exec (.minuteTimerExpiry n) s = .next s.settle.pump) ∧
    ∀ left, (s.lane n).state = .bound → (s.lane n).minute = .running left →
      (∀ rest, (s.lane n).remaining = rest + 2 →
        let warns := 0 < s.sdu.inForce.warning ∧ rest + 1 ≤ s.sdu.inForce.warning ∧ (s.lane n).warned = false
        let u := s.putLane n { s.lane n with
          remaining := rest + 1, minute := .running 60, warned := (s.lane n).warned || decide warns }
        exec (.minuteTimerExpiry n) s = .next (if warns
          then u.notify (.lane .warning n (s.lane n).order (rest + 1) none) else u).settle.pump) ∧
      (∀ number o, (s.lane n).remaining ≤ 1 → (s.lane n).order = some number → s.order number = some o →
        ∃ t, exec (.minuteTimerExpiry n) s = .next t ∧
          t.lane n = { s.lane n with
            state := .ended, remaining := 0, minute := .stopped, endCause := some .cutOff } ∧
          (∀ m, m ≠ n → t.lane m = s.lane m) ∧
          s.onlyChanged t [.track, .book, .zones, .wrappers, .label, .lanes, .link] ∧
          t.order number = some { o with
            state := .cutOff, lines := o.lines.map fun l => { l with assigned := l.dispatched } } ∧
          (∀ m p, t.pallet m = some p → p.assignment.map (·.order) ≠ some number) ∧ s.orphansDecided number t ∧
          (s.lku.notices.length + 2 ≤ 32 → s.lku.sending.isSome = true → ∃ later : List Notice,
            t.lku.notices = s.lku.notices ++
              [⟨.lane .ended n (some number) 0 (some .cutOff), s.now, s.lku.gap⟩,
               ⟨.order .cutOff number o.manifest (o.sum (·.dispatched)) o.dispatch.length
                 (s.assignedTo number).length (o.lines.map fun l => (l.number, l.ordered - l.dispatched)), s.now,
                 false⟩] ++ later))) ∧
  (∀ (s : State) (n : Lane) (active : Bool), s.inReset = false → s.taking = true →
    let u := (s.modPins fun p => { p with trucks := p.trucks.set n active }).putLane n { s.lane n with truck := active }
    exec (.truckPresentChange n active) s = .next (if active then (u.testRelease n).settle.pump else u.settle.pump))

/-! ### The key and the chain -/

/-- A key switch change: one active input gives its position, none or several NONE. A reading equal to the key position
changes nothing but the inputs; leaving RUN halts a RUNNING line with its LINE notice, a return to RUN makes a
HALTED line RUNNING, and in every other line state the position is written only (R200, R201, R202). The return to RUN
makes the LINE notice KEY_RETURNED and then does what every change to RUNNING does, as LineIsRestarted states: wrappers
PAUSED with cause HALT or ESTOP resume, the moves start, the release tests are made (R117, R158, R202). -/
def Obligations.KeyMovesTheLine : Prop :=
  (∀ a b c, (keyReading a b c = .run ↔ a = true ∧ b = false ∧ c = false) ∧
    (keyReading a b c = .setup ↔ a = false ∧ b = true ∧ c = false) ∧
    (keyReading a b c = .service ↔ a = false ∧ b = false ∧ c = true)) ∧
  ∀ (s : State) (a b c : Bool), s.inReset = false → s.taking = true →
    let key := keyReading a b c
    let pinned := s.modPins fun p => { p with keyRun := a, keySetup := b, keyService := c }
    let written := pinned.modLsv fun v => { v with key := key }
    (key = s.lsv.key → exec (.keySwitchChange a b c) s = .next pinned.pump) ∧
    (key ≠ s.lsv.key →
      (s.lsv.line = .running → key ≠ .run → exec (.keySwitchChange a b c) s = .next
        (((written.modLsv fun v => { v with line := .halted }).notify
          (.line .running .halted .keyLeftRun key s.lsv.chainOpen)).settle.pump)) ∧
      (s.lsv.line = .halted → key = .run → ∃ t, exec (.keySwitchChange a b c) s = .next t ∧
        t.lsv = { s.lsv with key := .run, line := .running } ∧
        s.onlyChanged t [.track, .book, .check, .zones, .wrappers, .lanes, .link, .supervisor, .pins, .ports] ∧
        (∀ w, (s.wrapper w).state = .paused → (s.wrapper w).pauseCause = some .filmOut ∨
          (s.wrapper w).pauseCause = some .filmBreak → t.wrapper w = s.wrapper w) ∧
        t = (((written.modLsv fun v => { v with line := .running }).notify
          (.line .halted .running .keyReturned .run s.lsv.chainOpen)).takeRunning).pump) ∧
      (s.lsv.line = .stopped ∨ (s.lsv.line = .halted ∧ key ≠ .run) →
        exec (.keySwitchChange a b c) s = .next written.pump))

/-- The chain opens: a RUNNING or HALTED line is STOPPED with the LINE notice ESTOP_OPENED; every drive is off and every gate
closed; moves and departures in flight are interrupted with their timers stopped; a WRAPPING wrapper's command is
voided and it is PAUSED with cause ESTOP; a cycle is suspended with no face applying or reading; a capture is
abandoned, its record without gross weight, profile result and reasons; the other wrappers, the lanes, the book and
the store stay (R76, R100, R118, R144, R201, R203; that all reasons held then are those of the capture is read from
R76, log 20). The chain closes: the chain state is written and no other state changes; an opening of an open chain
changes nothing (R203). -/
def Obligations.ChainStopsTheLine : Prop :=
  (∀ s : State, s.inReset = false → s.taking = true → s.lsv.chainOpen = false →
    ∃ t, exec .chainOpens s = .next t ∧
      t.lsv = { s.lsv with
        chainOpen := true,
        line := if s.lsv.line = .running ∨ s.lsv.line = .halted then .stopped else s.lsv.line } ∧
      (∀ z, t.zone z = if (s.zone z).state = .leaving ∨ (s.zone z).state = .reserved
        then { s.zone z with drive := false, interrupted := true, moveTimer := .stopped }
        else { s.zone z with drive := false }) ∧
      (∀ g : Lane, t.znc.gates[g] = false) ∧ t.znc.laneWait = s.znc.laneWait ∧ t.znc.route = s.znc.route ∧
      (∀ w, t.wrapper w = if (s.wrapper w).state = .wrapping
        then { s.wrapper w with
          state := .paused, pauseCause := some .estop, abortCut := false,
          channel := { (s.wrapper w).channel with
            state := .idle, command := none, acceptance := false, pass := .stopped } }
        else s.wrapper w) ∧
      (s.lbu.state = .cycle → t.lbu.state = .cycle ∧ t.lbu.suspended = true ∧ t.lbu.readTimer = .stopped ∧
        ∀ f, t.faceStep f ≠ .applying ∧ t.faceStep f ≠ .reading) ∧
      (s.lbu.state ≠ .cycle → t.lbu = s.lbu) ∧
      (s.cku.state = .capturing → t.cku.state = .abandoned ∧ t.cku.weight = .off ∧ t.cku.frame = .off ∧
        t.cku.weightTimer = .stopped ∧ t.cku.scanTimer = .stopped ∧ t.cku.snapshot = none ∧
        t.cku.track = s.cku.track ∧ t.cku.holdTimer = s.cku.holdTimer ∧
        ∀ n p, s.cku.track = some n → s.pallet n = some p →
          t.pallet n = some { p with gross := none, profile := none, reasons := [] } ∧
          ∀ m, m ≠ n → t.pallet m = s.pallet m) ∧
      (s.lku.sending.isSome = true → s.lku.notices.length < 32 → t.lku.notices =
        if s.lsv.line = .running ∨ s.lsv.line = .halted
        then s.lku.notices ++ [⟨.line s.lsv.line .stopped .estopOpened s.lsv.key true, s.now, s.lku.gap⟩]
        else s.lku.notices) ∧
      (s.cku.state ≠ .capturing → t.cku = s.cku ∧ t.trt = s.trt) ∧
      s.onlyChanged t [.supervisor, .zones, .wrappers, .label, .check, .track, .link, .pins]) ∧
  (∀ s : State, s.inReset = false → s.taking = true →
    exec .chainCloses s = .next ((s.modPins fun p => { p with chainOpen := false }).modLsv fun v =>
      { v with chainOpen := false }).pump ∧
    (s.lsv.chainOpen = true → exec .chainOpens s = .next (s.modPins fun p => { p with chainOpen := true }).pump))

/-! ### The wrapper stations -/

/-- The step of a plan: the passes in the order of the table, each counted before the next, the sheet before the top
passes, the cut last and only when film is on the pallet; nothing remains after it (R110). The step of a wrapper
that holds a WRAPPING record: paused by a line that is not RUNNING, or for want of film with its notice; else the
next pass is sent with the next command number; with nothing left the record is WRAPPED and the wrapper discharges
(R109, R111, R114, R117). An arrival in a wrapper zone begins the wrap: the wrapper is in the record, which is
WRAPPING, the wrapper's marks are clear, and the first step is taken (R108); an arrival in an outfeed leaves its
wrapper without load, IDLE when it was DISCHARGING (R119). -/
def Obligations.WrapFollowsItsPlan : Prop :=
  (∀ (r : Recipe) (done : Nat) (sheetDone cutDone : Bool), done ≤ r.passes →
    let before := r.bottom + r.up
    (done < r.bottom → nextPass (some r) done sheetDone cutDone = some .bottom) ∧
    (r.bottom ≤ done → done < before → nextPass (some r) done sheetDone cutDone = some .up) ∧
    (done = before → r.sheet = true → sheetDone = false → nextPass (some r) done sheetDone cutDone = some .sheet) ∧
    (before ≤ done → done < before + r.top → (r.sheet = false ∨ sheetDone = true) →
      nextPass (some r) done sheetDone cutDone = some .top) ∧
    (before + r.top ≤ done → done < r.passes → ¬ (done = before ∧ r.sheet = true ∧ sheetDone = false) →
      nextPass (some r) done sheetDone cutDone = some .down) ∧
    (done = r.passes → ¬ (done = before ∧ r.sheet = true ∧ sheetDone = false) →
      nextPass (some r) done sheetDone cutDone =
        if (0 < r.passes ∨ r.sheet = true) ∧ cutDone = false then some .cut else none) ∧
    nextPass none done sheetDone cutDone = none) ∧
  (∀ (s : State) (w : Wrapper) (n : TrackNo) (p : Pallet), (s.wrapper w).load = .track n → s.pallet n = some p →
    (s.wrapper w).channel.state = .idle → (s.wrapper w).abortPending = false →
    let r := s.wrapper w
    let next := nextPass p.plan p.passesDone r.sheetDone r.cutDone
    let number := r.channel.last + 1
    (s.lsv.line ≠ .running → s.wrapStep w = s.putWrapper w { r with
      state := .paused, pauseCause := some (if s.lsv.line = .halted then .halt else .estop) }) ∧
    (s.lsv.line = .running → next = none → s.wrapStep w =
      (s.putPallet n (some { p with state := .wrapped })).putWrapper w { r with
        state := .discharging, pauseCause := none }) ∧
    ∀ kind plan, s.lsv.line = .running → next = some kind → p.plan = some plan →
      (kind.isFilm = true → r.film < plan.film → s.wrapStep w =
        (s.putWrapper w { r with state := .paused, pauseCause := some .filmOut }).notify
          (.station .filmOut (.wrapper w) (some n) none none none r.film)) ∧
      ((kind.isFilm = false ∨ plan.film ≤ r.film) → s.wrapStep w =
        (s.putWrapper w { r with
          state := .wrapping, pauseCause := none
          channel := { r.channel with
            state := .sent, command := some ⟨kind, number⟩, last := number, resend := 0, acceptance := true,
            lastSent := s.now } }).modPorts fun o => { o with station := o.station.setWrapper w (some
              ⟨kind, number, plan.prestretch, if kind.isFilm then some plan.film else none⟩) })) ∧
  (∀ (s : State) (w : Wrapper) (n : TrackNo),
    (∀ p, s.pallet n = some p → s.handOn (.wrap w) n = State.wrapStep w
      ((s.putPallet n (some { p with wrapper := some w, state := .wrapping })).putWrapper w { s.wrapper w with
        state := .wrapping, load := .track n, sheetDone := false, cutDone := false, abortPending := false,
        abortCut := false, dischargeUnderWay := false })) ∧
    s.handOn (.out w) n = s.putWrapper w { s.wrapper w with
      state := if (s.wrapper w).state = .discharging then .idle else (s.wrapper w).state,
      load := .none, dischargeUnderWay := false })

/-- ACCEPTED with the number in flight of a pass makes a SENT channel WORKING with its pass timer; every answer with
another number, or on an idle channel, and a second ACCEPTED, is discarded (R112, R113). The timers of a channel:
the acceptance timer's first expiry sends the same command again under its number, the second faults the wrapper
with NO_RESPONSE; the pass timer's expiry faults it with PASS_TIMEOUT; stopped timers do nothing (R112, R113). -/
def Obligations.StationAnswersAndTimers : Prop :=
  (∀ (s : State) (w : Wrapper) (number : Byte), s.inReset = false →
    let r := s.wrapper w
    (∀ kind, r.channel.state = .sent → r.channel.command = some ⟨kind, number⟩ → kind ≠ .statusQuery →
      exec (.stationAccepted w number) s = .next (s.putWrapper w { r with channel := { r.channel with
        state := .working, acceptance := false, pass := .running s.sdu.inForce.pass } }).pump) ∧
    (r.channel.state = .working → exec (.stationAccepted w number) s = .next s.pump) ∧
    (r.channel.state = .idle ∨ (∀ kind, r.channel.command ≠ some ⟨kind, number⟩) →
      exec (.stationAccepted w number) s = .next s.pump ∧ exec (.stationDone w number) s = .next s.settle.pump ∧
      exec (.stationFilmBreak w number) s = .next s.settle.pump ∧ exec (.stationFault w number) s = .next s.pump ∧
      ∀ healthy loaded, exec (.stationStatusReport w number healthy loaded) s = .next s.settle.pump)) ∧
  (∀ (s : State) (w : Wrapper), s.inReset = false →
    let r := s.wrapper w
    (∀ kind number, r.channel.state = .sent → r.channel.command = some ⟨kind, number⟩ → kind ≠ .statusQuery →
      r.channel.acceptance = true →
      exec (.acceptanceTimerExpiry w) s = .next (if r.channel.resend = 0
        then (s.putWrapper w { r with channel := { r.channel with
          resend := 1, acceptance := true, lastSent := s.now } }).pump
        else (s.faultWrap w .noResponse).pump)) ∧
    (r.channel.acceptance = false → exec (.acceptanceTimerExpiry w) s = .next s.pump) ∧
    (r.channel.state = .working → r.channel.pass.isRunning = true →
      exec (.passTimerExpiry w) s = .next (s.faultWrap w .passTimeout).pump) ∧
    (r.channel.pass = .stopped → exec (.passTimerExpiry w) s = .next s.pump))

/-- The outcome of the pass in flight, while SENT or WORKING, no abort under way: the channel is idle; DONE counts the
pass (film and passes done for a film pass, with LOW_FILM once below 200 m; the sheet's and the cut's marks) and
takes the next step; FILM_BREAK pauses with its notice and counts nothing; FAULT makes the wrapper FAULTED (R112,
R113, R115, R120). A wrapper FAULTED: the cause written, the pause and the abort cleared, its channel idle, its
WRAPPING record WRAP_STOPPED, and the STATION notice FAULTED with the cause and the pass in flight (R120). -/
def Obligations.StationPassesEnd : Prop :=
  (∀ (s : State) (w : Wrapper) (n : TrackNo) (p : Pallet) (plan : Recipe) (kind : PassKind) (number : Byte),
    s.inReset = false → (s.wrapper w).channel.state ≠ .idle → (s.wrapper w).channel.command = some ⟨kind, number⟩ →
    kind ≠ .statusQuery → (s.wrapper w).load = .track n → s.pallet n = some p → p.plan = some plan →
    (s.wrapper w).abortCut = false →
    let r := s.wrapper w
    let idle := { r.channel with state := .idle, command := none, acceptance := false, pass := .stopped }
    (kind.isFilm = true →
      let film := r.film - plan.film
      let low := film < 200 ∧ r.lowFilmSent = false
      let counted := (s.putPallet n (some { p with passesDone := p.passesDone + 1 })).putWrapper w { r with
        channel := idle, film := film, lowFilmSent := r.lowFilmSent || decide low }
      exec (.stationDone w number) s = .next (((if low
        then counted.notify (.station .lowFilm (.wrapper w) none none none none film) else counted).wrapStep w).settle.pump)) ∧
    (kind = .sheet → exec (.stationDone w number) s =
      .next ((s.putWrapper w { r with channel := idle, sheetDone := true }).wrapStep w).settle.pump) ∧
    (kind = .cut → exec (.stationDone w number) s =
      .next ((s.putWrapper w { r with channel := idle, cutDone := true }).wrapStep w).settle.pump) ∧
    (r.abortPending = false → exec (.stationFilmBreak w number) s = .next
      ((s.putWrapper w { r with channel := idle, state := .paused, pauseCause := some .filmBreak }).notify
        (.station .filmBreak (.wrapper w) (some n) (some kind) none none 0)).settle.pump) ∧
    exec (.stationFault w number) s = .next (s.faultWrap w .unitFault).pump) ∧
  (∀ (s : State) (w : Wrapper) (n : TrackNo) (p : Pallet) (cause : FaultCause), (s.wrapper w).load = .track n →
    s.pallet n = some p →
    let r := s.wrapper w
    s.faultWrap w cause = ((s.putPallet n (some (if p.state = .wrapping then { p with state := .wrapStopped } else p))).putWrapper w
      { r with
        state := .faulted, faultCause := some cause, pauseCause := none, abortPending := false, abortCut := false,
        channel := { r.channel with state := .idle, command := none, acceptance := false, pass := .stopped } }).notify
      (.station .faulted (.wrapper w) (some n) (r.channel.command.map (·.kind)) (some cause) none 0))

/-- The abort that WRAPPER OFFLINE asks: with film on the pallet and the line RUNNING a CUT is sent, otherwise it ends
at once; the CUT's DONE, which sets cut done, or its FILM_BREAK ends it, and a FILM_BREAK of any other pass takes it
in place of the pause. At its end the record is WRAP_STOPPED and the wrapper OFFLINE with it (R113, R124). That no
STATION notice FILM_BREAK is made in either case is read from R115 and R124 (log 18). -/
def Obligations.AbortTakesTheWrapperOffline : Prop :=
  ∀ (s : State) (w : Wrapper) (n : TrackNo) (p : Pallet), (s.wrapper w).load = .track n → s.pallet n = some p →
    let r := s.wrapper w
    let offline (u : State) : State := (u.putPallet n (some { p with state := .wrapStopped })).modWrapper w fun r =>
      { r with state := .offline, pauseCause := none, abortPending := false, abortCut := false }
    let idled := s.modWrapper w fun r => { r with
      channel := { r.channel with state := .idle, command := none, acceptance := false, pass := .stopped } }
    ((p.passesDone = 0 ∧ r.sheetDone = false) ∨ s.lsv.line ≠ .running → s.takeAbort w = offline s) ∧
    (∀ plan, (0 < p.passesDone ∨ r.sheetDone = true) → s.lsv.line = .running → p.plan = some plan →
      r.channel.state = .idle → s.takeAbort w = (s.putWrapper w { r with
        state := .wrapping, pauseCause := none, abortCut := true
        channel := { r.channel with
          state := .sent, command := some ⟨.cut, r.channel.last + 1⟩, last := r.channel.last + 1, resend := 0,
          acceptance := true, lastSent := s.now } }).modPorts fun o =>
            { o with station := o.station.setWrapper w (some (.mk .cut (r.channel.last + 1) plan.prestretch none)) }) ∧
    ∀ kind number, s.inReset = false → r.channel.state ≠ .idle → r.channel.command = some ⟨kind, number⟩ →
      kind ≠ .statusQuery →
      (r.abortCut = true →
        exec (.stationDone w number) s =
          .next (offline (idled.modWrapper w fun r => { r with cutDone := true })).settle.pump ∧
        exec (.stationFilmBreak w number) s = .next (offline idled).settle.pump) ∧
      (r.abortCut = false → r.abortPending = true →
        exec (.stationFilmBreak w number) s = .next (idled.takeAbort w).settle.pump)

/-! ### The label heads and reader -/

/-- APPLIED for a face that is APPLYING stops that head's timer and sets the face to be read, and a cycle neither
stopped nor suspended goes on; FAULT, and the expiry of the head's timer, set it back to be applied, stop the unit,
void a read in flight and make the STATION notice; an answer for a face that is not APPLYING is discarded (R138,
R141). That the late answer of an expired or voided apply is taken as that of the next one, when the face is APPLYING
again, is the model's choice (log 50). -/
def Obligations.HeadAnswers : Prop :=
  ∀ (s : State) (f : Face), s.inReset = false →
    (s.faceStep f ≠ .applying → exec (.headApplied f) s = .next s.pump ∧ exec (.headFault f) s = .next s.pump) ∧
    (s.lbu.applyTimers.face f = .stopped → exec (.applyTimerExpiry f) s = .next s.pump) ∧
    (s.faceStep f = .applying →
      let read := s.modLbu fun l => { l with
        applyTimers := l.applyTimers.setFace f .stopped, steps := l.steps.setFace f .toRead }
      let back (x : FaceStep) : FaceStep := if x = .reading then .toRead else x
      let failed (cause : LabellerCause) : State := ((s.modLbu fun l => { l with
        state := .stopped, readTimer := .stopped
        applyTimers := l.applyTimers.setFace f .stopped
        steps := ⟨back (l.steps.setFace f .toApply).fst, back (l.steps.setFace f .toApply).snd⟩ }).notify
          (.station .labellerStopped (.head f) s.lbu.track none none (some cause) 0)).pump
      exec (.headApplied f) s =
        .next (if s.lbu.state = .cycle ∧ s.lbu.suspended = false then read.advance else read).pump ∧
      exec (.headFault f) s = .next (failed .headFault) ∧
      ((s.lbu.applyTimers.face f).isRunning = true → exec (.applyTimerExpiry f) s = .next (failed .noAnswer)))

/-- The reader's answer for a face that is READING: the text compared with the read-back text, MATCH making the face
done and the cycle go on, MISMATCH rejecting the record with LABEL_MISMATCH, NO_READ and the read timer's expiry
leaving the face to the end of the round; an answer for a face that is not READING is discarded (R139, R140). That the
late answer of an expired or voided read is taken as that of the next one, when the face is READING again, is the
model's choice (log 51). -/
def Obligations.ReaderAnswers : Prop :=
  ∀ (s : State) (f : Face) (n : TrackNo) (p : Pallet) (content : LabelContent) (text : Text), s.inReset = false →
    s.lbu.track = some n → s.pallet n = some p → s.lbu.content = some content →
    (s.faceStep f ≠ .reading → exec (.readerText f text) s = .next s.settle.pump ∧
      exec (.readerNoRead f) s = .next s.settle.pump) ∧
    (s.lbu.readTimer = .stopped → exec .readTimerExpiry s = .next s.settle.pump) ∧
    (s.faceStep f = .reading →
      let written (result : FaceResult) : State := (s.modLbu fun l => { l with readTimer := .stopped }).putPallet n
        (some { p with faces := p.faces.setFace f { p.faces.face f with result := result } })
      let noRead := ((written .noRead).setStep f .waiting).advance.settle.pump
      (text = content.readBack →
        exec (.readerText f text) s = .next ((written .isMatch).setStep f .done).advance.settle.pump) ∧
      (text ≠ content.readBack → ∃ t, exec (.readerText f text) s = .next t ∧
        t.pallet n = ((written .mismatch).reject n (some .labelMismatch)).pallet n ∧
        t.lbu = { s.lbu with
          state := .idle, track := none, suspended := false, content := none, steps := ⟨.done, .done⟩,
          applyTimers := ⟨.stopped, .stopped⟩, readTimer := .stopped } ∧
        s.onlyChanged t [.track, .book, .zones, .wrappers, .label, .link]) ∧
      exec (.readerNoRead f) s = .next noRead ∧
      (s.lbu.readTimer.isRunning = true → (f = .side ∨ s.faceStep .side ≠ .reading) →
        exec .readTimerExpiry s = .next noRead))

/-- How a cycle goes on: faces to be applied are sent to their heads, each with its attempt counted and its timer
running; a read is asked only when no face is to be applied, applying or reading, SIDE before END; at the end of the
round both faces matched make the record LABELLED, or REJECTED with ORDER_ENDED when orphaned, and a NO_READ face
goes back to be applied, or after two applies the record is REJECTED with LABEL_NO_READ (R138, R139, R140). -/
def Obligations.CycleGoesOn : Prop :=
  ∀ (s : State) (n : TrackNo) (p : Pallet), s.lbu.track = some n → s.pallet n = some p →
    (∀ f, s.faceStep f = .toApply → ∃ q, s.advance.pallet n = some q ∧ s.advance.faceStep f = .applying ∧
      s.advance.lbu.applyTimers.face f = .running 10 ∧ s.advance.ports.head.face f = s.lbu.content ∧
      (q.faces.face f).attempts = (p.faces.face f).attempts + 1) ∧
    ((∀ f, s.faceStep f ≠ .toApply) → (∃ f, s.faceStep f = .applying ∨ s.faceStep f = .reading) → s.advance = s) ∧
    (∀ f, s.faceStep f = .toRead → (f = .side ∨ s.faceStep .side = .done ∨ s.faceStep .side = .waiting) →
      (∀ g, s.faceStep g ≠ .toApply ∧ s.faceStep g ≠ .applying ∧ s.faceStep g ≠ .reading) →
      s.advance.faceStep f = .reading ∧ s.advance.lbu.readTimer = .running 3 ∧ s.advance.ports.reader = some f) ∧
    ((∀ f, s.faceStep f = .done) →
      let q := if p.orphaned then p else { p with state := .labelled, labelledTime := some s.now }
      (s.advance.lbu.state = .idle ∧ s.advance.lbu.track = none ∧ s.advance.lbu.content = none) ∧
      (p.orphaned = false → s.advance.pallet n = some q) ∧
      (p.orphaned = true → s.advance.pallet n = (s.reject n (some .orderEnded)).pallet n)) ∧
    ((∀ f, s.faceStep f = .done ∨ s.faceStep f = .waiting) → ∀ f, s.faceStep f = .waiting →
      ((∀ g, (p.faces.face g).attempts < 2) → s.advance.faceStep f = .applying) ∧
      (2 ≤ (p.faces.face f).attempts → s.advance.pallet n = (s.reject n (some .labelNoRead)).pallet n)) ∧
    s.onlyChanged s.advance [.track, .book, .label, .link, .ports]

/-- Label work begins: a WRAPPED record arriving in LABEL that is not orphaned is LABELLING and the label track; without
a serial it takes next serial when one may be issued and otherwise waits; an orphaned one goes on so with the
assignment that allocation finds, its flag cleared, or is REJECTED with ORDER_ENDED; a record in any other state
passes through untouched (R130, R131, R133). The begin of a cycle: with its content composed both faces are to be
applied and the cycle goes on, held suspended while the line is STOPPED; without a content, for the site entry is
DAMAGED, the record waits (R133, R137, R138). The content: destination and order number by the assignment, product,
batch and best-before by the tag, the name of a VALID profile whose check word holds or none, the dispatch serial, prefix,
hyphen and running number in 8 digits, and the read-back text, serial, slash and order number in decimal without leading
zeros; a profile or a site entry whose check word fails becomes DAMAGED with its notice, and a DAMAGED site entry gives no
content (R135, R137, R165; that the profile is read before the site entry is the model's reading, log 38). A record that
waits, under the issue block SITE_DAMAGED with a STORE notice DAMAGED for its track number (R133, R135). -/
def Obligations.LabelWorkBegins : Prop :=
  (∀ (s : State) (n : TrackNo) (p : Pallet), s.pallet n = some p →
    s.handOn .label n = s.arriveLabel n ∧
    (p.state ≠ .wrapped → s.arriveLabel n = s) ∧
    (p.state = .wrapped → p.orphaned = false → ∃ q, (s.arriveLabel n).pallet n = some q ∧ q.state = .labelling ∧
      (s.arriveLabel n).lbu.track = some n ∧
      (∀ number, p.serial = some number → q.serial = some number ∧ (s.arriveLabel n).lbu.next = s.lbu.next) ∧
      (p.serial = none → s.lbu.block = none → s.lbu.next < s.lbu.reservedEnd →
        q.serial = some s.lbu.next ∧ (s.arriveLabel n).lbu.next = s.lbu.next + 1) ∧
      (p.serial = none → (s.lbu.block.isSome = true ∨ s.lbu.reservedEnd ≤ s.lbu.next) →
        q.serial = none ∧ (s.arriveLabel n).lbu.state = .waitSerial ∧ (s.arriveLabel n).lbu.next = s.lbu.next)) ∧
    (p.state = .wrapped → p.orphaned = true →
      (s.allocate n = none → s.arriveLabel n = s.reject n (some .orderEnded)) ∧
      ∀ u q, s.allocate n = some u → u.pallet n = some q →
        s.arriveLabel n = (u.putPallet n (some { q with orphaned := false })).arriveLabel n) ∧
    s.onlyChanged (s.arriveLabel n) [.track, .book, .label, .store, .link, .ports]) ∧
  (∀ (s : State) (n : TrackNo),
    (∀ content u, s.compose n = (some content, u) →
      let cycle := u.modLbu fun l => { l with
        state := .cycle, track := some n, content := some content, steps := ⟨.toApply, .toApply⟩,
        suspended := decide (s.lsv.line = .stopped) }
      s.beginCycle n = if s.lsv.line = .stopped then cycle else cycle.advance) ∧
    (∀ u, s.compose n = (none, u) → s.beginCycle n = u.waitForSerial n)) ∧
  (∀ (s : State) (n : TrackNo),
    let waits := s.modLbu fun l => { l with state := .waitSerial, track := some n }
    (s.lbu.block ≠ some .siteDamaged → s.waitForSerial n = waits) ∧
    (s.lbu.block = some .siteDamaged →
      s.waitForSerial n = waits.notify (.store .damaged .site none (some n) 0 0))) ∧
  (∀ (s : State) (n : TrackNo) (p : Pallet) (g : Tag), s.pallet n = some p → p.tag = some g →
    let number := (p.assignment.map (·.order)).getD 0
    let content (name sitePrefix : Text) : LabelContent :=
      { destination := ((s.order number).map (·.destination)).getD [], order := number, product := g.product
        name := name, batch := g.batch, bestBefore := g.bestBefore
        serial := sitePrefix ++ [0x2D] ++ digits 8 (p.serial.getD 0)
        readBack := sitePrefix ++ [0x2D] ++ digits 8 (p.serial.getD 0) ++ [0x2F] ++ decimal number }
    let composed (name : Text) (u : State) : Option LabelContent × State := match s.sdu.site with
      | .valid c true => (some (content name (c.sitePrefix.getD [])), u)
      | .valid _ false => (none, u.damageAtRead .site)
      | .empty _ | .damaged => (none, u)
    (s.sdu.slotOf g.product = none → s.compose n = composed [] s) ∧
    ∀ i, s.sdu.slotOf g.product = some i →
      (∀ f, s.sdu.profiles[i].entry = .valid f true → s.compose n = composed f.name s) ∧
      ((∃ holds, s.sdu.profiles[i].entry = .empty holds) ∨ s.sdu.profiles[i].entry = .damaged →
        s.compose n = composed [] s) ∧
      (∀ f, s.sdu.profiles[i].entry = .valid f false → s.compose n = composed []
        ((s.modSdu fun d => { d with profiles := d.profiles.set i { d.profiles[i] with entry := .damaged } }).notify
          (.store .damaged (.profile i) s.sdu.profiles[i].key none 0 0)))) ∧
  (∀ s : State,
    let marked := ((s.modSdu fun d => { d with site := .damaged }).notify (.store .damaged .site none none 0 0)).modLbu
      fun l => { l with block := some .siteDamaged }
    s.damageAtRead .site = if s.sdu.reservation = ReservationSlot.waiting
      then ((marked.modSdu fun d => { d with reservation := .empty }).modLbu fun l => { l with inFlight := false }).notify
        (.store .reservationFailed .site none none 0 0)
      else marked) ∧
  (∀ n : Nat, digits 8 n = [7, 6, 5, 4, 3, 2, 1, 0].map fun k => BitVec.ofNat 8 (0x30 + n / 10 ^ k % 10)) ∧
  (∀ number, 1 ≤ number → number ≤ 999999 →
    (decimal number).foldl (fun a b => 10 * a + (b.toNat - 0x30)) 0 = number ∧
    (∀ b ∈ decimal number, 0x30 ≤ b ∧ b ≤ 0x39) ∧ (decimal number).head? ≠ some 0x30)
end

