-- ==== Sys2Proof/Laws/State.lean ====
section
/-! SUPPORT. One lemma per block per update of the state: each update of one block leaves the other blocks as they were. -/

namespace Sys2Proof.Machine.State

/-! ### modTrt -/

@[simp] theorem modTrt_trt (f : Track → Track) (s : State) : (s.modTrt f).trt = f s.trt := rfl
@[simp] theorem modTrt_obk (f : Track → Track) (s : State) : (s.modTrt f).obk = s.obk := rfl
@[simp] theorem modTrt_cku (f : Track → Track) (s : State) : (s.modTrt f).cku = s.cku := rfl
@[simp] theorem modTrt_znc (f : Track → Track) (s : State) : (s.modTrt f).znc = s.znc := rfl
@[simp] theorem modTrt_wsq (f : Track → Track) (s : State) : (s.modTrt f).wsq = s.wsq := rfl
@[simp] theorem modTrt_lbu (f : Track → Track) (s : State) : (s.modTrt f).lbu = s.lbu := rfl
@[simp] theorem modTrt_lnu (f : Track → Track) (s : State) : (s.modTrt f).lnu = s.lnu := rfl
@[simp] theorem modTrt_sdu (f : Track → Track) (s : State) : (s.modTrt f).sdu = s.sdu := rfl
@[simp] theorem modTrt_lku (f : Track → Track) (s : State) : (s.modTrt f).lku = s.lku := rfl
@[simp] theorem modTrt_lsv (f : Track → Track) (s : State) : (s.modTrt f).lsv = s.lsv := rfl
@[simp] theorem modTrt_pins (f : Track → Track) (s : State) : (s.modTrt f).pins = s.pins := rfl
@[simp] theorem modTrt_ports (f : Track → Track) (s : State) : (s.modTrt f).ports = s.ports := rfl
@[simp] theorem modTrt_freeCount (f : Track → Track) (s : State) : (s.modTrt f).freeCount = s.freeCount := rfl
@[simp] theorem modTrt_pending (f : Track → Track) (s : State) : (s.modTrt f).pending = s.pending := rfl

/-! ### modObk -/

@[simp] theorem modObk_trt (f : Book → Book) (s : State) : (s.modObk f).trt = s.trt := rfl
@[simp] theorem modObk_obk (f : Book → Book) (s : State) : (s.modObk f).obk = f s.obk := rfl
@[simp] theorem modObk_cku (f : Book → Book) (s : State) : (s.modObk f).cku = s.cku := rfl
@[simp] theorem modObk_znc (f : Book → Book) (s : State) : (s.modObk f).znc = s.znc := rfl
@[simp] theorem modObk_wsq (f : Book → Book) (s : State) : (s.modObk f).wsq = s.wsq := rfl
@[simp] theorem modObk_lbu (f : Book → Book) (s : State) : (s.modObk f).lbu = s.lbu := rfl
@[simp] theorem modObk_lnu (f : Book → Book) (s : State) : (s.modObk f).lnu = s.lnu := rfl
@[simp] theorem modObk_sdu (f : Book → Book) (s : State) : (s.modObk f).sdu = s.sdu := rfl
@[simp] theorem modObk_lku (f : Book → Book) (s : State) : (s.modObk f).lku = s.lku := rfl
@[simp] theorem modObk_lsv (f : Book → Book) (s : State) : (s.modObk f).lsv = s.lsv := rfl
@[simp] theorem modObk_pins (f : Book → Book) (s : State) : (s.modObk f).pins = s.pins := rfl
@[simp] theorem modObk_ports (f : Book → Book) (s : State) : (s.modObk f).ports = s.ports := rfl
@[simp] theorem modObk_freeCount (f : Book → Book) (s : State) : (s.modObk f).freeCount = s.freeCount := rfl
@[simp] theorem modObk_pending (f : Book → Book) (s : State) : (s.modObk f).pending = s.pending := rfl

/-! ### modCku -/

@[simp] theorem modCku_trt (f : CheckUnit → CheckUnit) (s : State) : (s.modCku f).trt = s.trt := rfl
@[simp] theorem modCku_obk (f : CheckUnit → CheckUnit) (s : State) : (s.modCku f).obk = s.obk := rfl
@[simp] theorem modCku_cku (f : CheckUnit → CheckUnit) (s : State) : (s.modCku f).cku = f s.cku := rfl
@[simp] theorem modCku_znc (f : CheckUnit → CheckUnit) (s : State) : (s.modCku f).znc = s.znc := rfl
@[simp] theorem modCku_wsq (f : CheckUnit → CheckUnit) (s : State) : (s.modCku f).wsq = s.wsq := rfl
@[simp] theorem modCku_lbu (f : CheckUnit → CheckUnit) (s : State) : (s.modCku f).lbu = s.lbu := rfl
@[simp] theorem modCku_lnu (f : CheckUnit → CheckUnit) (s : State) : (s.modCku f).lnu = s.lnu := rfl
@[simp] theorem modCku_sdu (f : CheckUnit → CheckUnit) (s : State) : (s.modCku f).sdu = s.sdu := rfl
@[simp] theorem modCku_lku (f : CheckUnit → CheckUnit) (s : State) : (s.modCku f).lku = s.lku := rfl
@[simp] theorem modCku_lsv (f : CheckUnit → CheckUnit) (s : State) : (s.modCku f).lsv = s.lsv := rfl
@[simp] theorem modCku_pins (f : CheckUnit → CheckUnit) (s : State) : (s.modCku f).pins = s.pins := rfl
@[simp] theorem modCku_ports (f : CheckUnit → CheckUnit) (s : State) : (s.modCku f).ports = s.ports := rfl
@[simp] theorem modCku_freeCount (f : CheckUnit → CheckUnit) (s : State) : (s.modCku f).freeCount = s.freeCount := rfl
@[simp] theorem modCku_pending (f : CheckUnit → CheckUnit) (s : State) : (s.modCku f).pending = s.pending := rfl

/-! ### modZnc -/

@[simp] theorem modZnc_trt (f : ZoneUnit → ZoneUnit) (s : State) : (s.modZnc f).trt = s.trt := rfl
@[simp] theorem modZnc_obk (f : ZoneUnit → ZoneUnit) (s : State) : (s.modZnc f).obk = s.obk := rfl
@[simp] theorem modZnc_cku (f : ZoneUnit → ZoneUnit) (s : State) : (s.modZnc f).cku = s.cku := rfl
@[simp] theorem modZnc_znc (f : ZoneUnit → ZoneUnit) (s : State) : (s.modZnc f).znc = f s.znc := rfl
@[simp] theorem modZnc_wsq (f : ZoneUnit → ZoneUnit) (s : State) : (s.modZnc f).wsq = s.wsq := rfl
@[simp] theorem modZnc_lbu (f : ZoneUnit → ZoneUnit) (s : State) : (s.modZnc f).lbu = s.lbu := rfl
@[simp] theorem modZnc_lnu (f : ZoneUnit → ZoneUnit) (s : State) : (s.modZnc f).lnu = s.lnu := rfl
@[simp] theorem modZnc_sdu (f : ZoneUnit → ZoneUnit) (s : State) : (s.modZnc f).sdu = s.sdu := rfl
@[simp] theorem modZnc_lku (f : ZoneUnit → ZoneUnit) (s : State) : (s.modZnc f).lku = s.lku := rfl
@[simp] theorem modZnc_lsv (f : ZoneUnit → ZoneUnit) (s : State) : (s.modZnc f).lsv = s.lsv := rfl
@[simp] theorem modZnc_pins (f : ZoneUnit → ZoneUnit) (s : State) : (s.modZnc f).pins = s.pins := rfl
@[simp] theorem modZnc_ports (f : ZoneUnit → ZoneUnit) (s : State) : (s.modZnc f).ports = s.ports := rfl
@[simp] theorem modZnc_freeCount (f : ZoneUnit → ZoneUnit) (s : State) : (s.modZnc f).freeCount = s.freeCount := rfl
@[simp] theorem modZnc_pending (f : ZoneUnit → ZoneUnit) (s : State) : (s.modZnc f).pending = s.pending := rfl

/-! ### modLbu -/

@[simp] theorem modLbu_trt (f : LabelUnit → LabelUnit) (s : State) : (s.modLbu f).trt = s.trt := rfl
@[simp] theorem modLbu_obk (f : LabelUnit → LabelUnit) (s : State) : (s.modLbu f).obk = s.obk := rfl
@[simp] theorem modLbu_cku (f : LabelUnit → LabelUnit) (s : State) : (s.modLbu f).cku = s.cku := rfl
@[simp] theorem modLbu_znc (f : LabelUnit → LabelUnit) (s : State) : (s.modLbu f).znc = s.znc := rfl
@[simp] theorem modLbu_wsq (f : LabelUnit → LabelUnit) (s : State) : (s.modLbu f).wsq = s.wsq := rfl
@[simp] theorem modLbu_lbu (f : LabelUnit → LabelUnit) (s : State) : (s.modLbu f).lbu = f s.lbu := rfl
@[simp] theorem modLbu_lnu (f : LabelUnit → LabelUnit) (s : State) : (s.modLbu f).lnu = s.lnu := rfl
@[simp] theorem modLbu_sdu (f : LabelUnit → LabelUnit) (s : State) : (s.modLbu f).sdu = s.sdu := rfl
@[simp] theorem modLbu_lku (f : LabelUnit → LabelUnit) (s : State) : (s.modLbu f).lku = s.lku := rfl
@[simp] theorem modLbu_lsv (f : LabelUnit → LabelUnit) (s : State) : (s.modLbu f).lsv = s.lsv := rfl
@[simp] theorem modLbu_pins (f : LabelUnit → LabelUnit) (s : State) : (s.modLbu f).pins = s.pins := rfl
@[simp] theorem modLbu_ports (f : LabelUnit → LabelUnit) (s : State) : (s.modLbu f).ports = s.ports := rfl
@[simp] theorem modLbu_freeCount (f : LabelUnit → LabelUnit) (s : State) : (s.modLbu f).freeCount = s.freeCount := rfl
@[simp] theorem modLbu_pending (f : LabelUnit → LabelUnit) (s : State) : (s.modLbu f).pending = s.pending := rfl

/-! ### modSdu -/

@[simp] theorem modSdu_trt (f : Store → Store) (s : State) : (s.modSdu f).trt = s.trt := rfl
@[simp] theorem modSdu_obk (f : Store → Store) (s : State) : (s.modSdu f).obk = s.obk := rfl
@[simp] theorem modSdu_cku (f : Store → Store) (s : State) : (s.modSdu f).cku = s.cku := rfl
@[simp] theorem modSdu_znc (f : Store → Store) (s : State) : (s.modSdu f).znc = s.znc := rfl
@[simp] theorem modSdu_wsq (f : Store → Store) (s : State) : (s.modSdu f).wsq = s.wsq := rfl
@[simp] theorem modSdu_lbu (f : Store → Store) (s : State) : (s.modSdu f).lbu = s.lbu := rfl
@[simp] theorem modSdu_lnu (f : Store → Store) (s : State) : (s.modSdu f).lnu = s.lnu := rfl
@[simp] theorem modSdu_sdu (f : Store → Store) (s : State) : (s.modSdu f).sdu = f s.sdu := rfl
@[simp] theorem modSdu_lku (f : Store → Store) (s : State) : (s.modSdu f).lku = s.lku := rfl
@[simp] theorem modSdu_lsv (f : Store → Store) (s : State) : (s.modSdu f).lsv = s.lsv := rfl
@[simp] theorem modSdu_pins (f : Store → Store) (s : State) : (s.modSdu f).pins = s.pins := rfl
@[simp] theorem modSdu_ports (f : Store → Store) (s : State) : (s.modSdu f).ports = s.ports := rfl
@[simp] theorem modSdu_freeCount (f : Store → Store) (s : State) : (s.modSdu f).freeCount = s.freeCount := rfl
@[simp] theorem modSdu_pending (f : Store → Store) (s : State) : (s.modSdu f).pending = s.pending := rfl

/-! ### modLku -/

@[simp] theorem modLku_trt (f : Link → Link) (s : State) : (s.modLku f).trt = s.trt := rfl
@[simp] theorem modLku_obk (f : Link → Link) (s : State) : (s.modLku f).obk = s.obk := rfl
@[simp] theorem modLku_cku (f : Link → Link) (s : State) : (s.modLku f).cku = s.cku := rfl
@[simp] theorem modLku_znc (f : Link → Link) (s : State) : (s.modLku f).znc = s.znc := rfl
@[simp] theorem modLku_wsq (f : Link → Link) (s : State) : (s.modLku f).wsq = s.wsq := rfl
@[simp] theorem modLku_lbu (f : Link → Link) (s : State) : (s.modLku f).lbu = s.lbu := rfl
@[simp] theorem modLku_lnu (f : Link → Link) (s : State) : (s.modLku f).lnu = s.lnu := rfl
@[simp] theorem modLku_sdu (f : Link → Link) (s : State) : (s.modLku f).sdu = s.sdu := rfl
@[simp] theorem modLku_lku (f : Link → Link) (s : State) : (s.modLku f).lku = f s.lku := rfl
@[simp] theorem modLku_lsv (f : Link → Link) (s : State) : (s.modLku f).lsv = s.lsv := rfl
@[simp] theorem modLku_pins (f : Link → Link) (s : State) : (s.modLku f).pins = s.pins := rfl
@[simp] theorem modLku_ports (f : Link → Link) (s : State) : (s.modLku f).ports = s.ports := rfl
@[simp] theorem modLku_freeCount (f : Link → Link) (s : State) : (s.modLku f).freeCount = s.freeCount := rfl
@[simp] theorem modLku_pending (f : Link → Link) (s : State) : (s.modLku f).pending = s.pending := rfl

/-! ### modLsv -/

@[simp] theorem modLsv_trt (f : Supervisor → Supervisor) (s : State) : (s.modLsv f).trt = s.trt := rfl
@[simp] theorem modLsv_obk (f : Supervisor → Supervisor) (s : State) : (s.modLsv f).obk = s.obk := rfl
@[simp] theorem modLsv_cku (f : Supervisor → Supervisor) (s : State) : (s.modLsv f).cku = s.cku := rfl
@[simp] theorem modLsv_znc (f : Supervisor → Supervisor) (s : State) : (s.modLsv f).znc = s.znc := rfl
@[simp] theorem modLsv_wsq (f : Supervisor → Supervisor) (s : State) : (s.modLsv f).wsq = s.wsq := rfl
@[simp] theorem modLsv_lbu (f : Supervisor → Supervisor) (s : State) : (s.modLsv f).lbu = s.lbu := rfl
@[simp] theorem modLsv_lnu (f : Supervisor → Supervisor) (s : State) : (s.modLsv f).lnu = s.lnu := rfl
@[simp] theorem modLsv_sdu (f : Supervisor → Supervisor) (s : State) : (s.modLsv f).sdu = s.sdu := rfl
@[simp] theorem modLsv_lku (f : Supervisor → Supervisor) (s : State) : (s.modLsv f).lku = s.lku := rfl
@[simp] theorem modLsv_lsv (f : Supervisor → Supervisor) (s : State) : (s.modLsv f).lsv = f s.lsv := rfl
@[simp] theorem modLsv_pins (f : Supervisor → Supervisor) (s : State) : (s.modLsv f).pins = s.pins := rfl
@[simp] theorem modLsv_ports (f : Supervisor → Supervisor) (s : State) : (s.modLsv f).ports = s.ports := rfl
@[simp] theorem modLsv_freeCount (f : Supervisor → Supervisor) (s : State) : (s.modLsv f).freeCount = s.freeCount := rfl
@[simp] theorem modLsv_pending (f : Supervisor → Supervisor) (s : State) : (s.modLsv f).pending = s.pending := rfl

/-! ### modPins -/

@[simp] theorem modPins_trt (f : Pins → Pins) (s : State) : (s.modPins f).trt = s.trt := rfl
@[simp] theorem modPins_obk (f : Pins → Pins) (s : State) : (s.modPins f).obk = s.obk := rfl
@[simp] theorem modPins_cku (f : Pins → Pins) (s : State) : (s.modPins f).cku = s.cku := rfl
@[simp] theorem modPins_znc (f : Pins → Pins) (s : State) : (s.modPins f).znc = s.znc := rfl
@[simp] theorem modPins_wsq (f : Pins → Pins) (s : State) : (s.modPins f).wsq = s.wsq := rfl
@[simp] theorem modPins_lbu (f : Pins → Pins) (s : State) : (s.modPins f).lbu = s.lbu := rfl
@[simp] theorem modPins_lnu (f : Pins → Pins) (s : State) : (s.modPins f).lnu = s.lnu := rfl
@[simp] theorem modPins_sdu (f : Pins → Pins) (s : State) : (s.modPins f).sdu = s.sdu := rfl
@[simp] theorem modPins_lku (f : Pins → Pins) (s : State) : (s.modPins f).lku = s.lku := rfl
@[simp] theorem modPins_lsv (f : Pins → Pins) (s : State) : (s.modPins f).lsv = s.lsv := rfl
@[simp] theorem modPins_pins (f : Pins → Pins) (s : State) : (s.modPins f).pins = f s.pins := rfl
@[simp] theorem modPins_ports (f : Pins → Pins) (s : State) : (s.modPins f).ports = s.ports := rfl
@[simp] theorem modPins_freeCount (f : Pins → Pins) (s : State) : (s.modPins f).freeCount = s.freeCount := rfl
@[simp] theorem modPins_pending (f : Pins → Pins) (s : State) : (s.modPins f).pending = s.pending := rfl

/-! ### modPorts -/

@[simp] theorem modPorts_trt (f : Ports → Ports) (s : State) : (s.modPorts f).trt = s.trt := rfl
@[simp] theorem modPorts_obk (f : Ports → Ports) (s : State) : (s.modPorts f).obk = s.obk := rfl
@[simp] theorem modPorts_cku (f : Ports → Ports) (s : State) : (s.modPorts f).cku = s.cku := rfl
@[simp] theorem modPorts_znc (f : Ports → Ports) (s : State) : (s.modPorts f).znc = s.znc := rfl
@[simp] theorem modPorts_wsq (f : Ports → Ports) (s : State) : (s.modPorts f).wsq = s.wsq := rfl
@[simp] theorem modPorts_lbu (f : Ports → Ports) (s : State) : (s.modPorts f).lbu = s.lbu := rfl
@[simp] theorem modPorts_lnu (f : Ports → Ports) (s : State) : (s.modPorts f).lnu = s.lnu := rfl
@[simp] theorem modPorts_sdu (f : Ports → Ports) (s : State) : (s.modPorts f).sdu = s.sdu := rfl
@[simp] theorem modPorts_lku (f : Ports → Ports) (s : State) : (s.modPorts f).lku = s.lku := rfl
@[simp] theorem modPorts_lsv (f : Ports → Ports) (s : State) : (s.modPorts f).lsv = s.lsv := rfl
@[simp] theorem modPorts_pins (f : Ports → Ports) (s : State) : (s.modPorts f).pins = s.pins := rfl
@[simp] theorem modPorts_ports (f : Ports → Ports) (s : State) : (s.modPorts f).ports = f s.ports := rfl
@[simp] theorem modPorts_freeCount (f : Ports → Ports) (s : State) : (s.modPorts f).freeCount = s.freeCount := rfl
@[simp] theorem modPorts_pending (f : Ports → Ports) (s : State) : (s.modPorts f).pending = s.pending := rfl

/-! ### putPallet -/

@[simp] theorem putPallet_trt (n : TrackNo) (p : Option Pallet) (s : State) : (s.putPallet n p).trt = { s.trt with pallets := s.trt.pallets.set n p } := rfl
@[simp] theorem putPallet_obk (n : TrackNo) (p : Option Pallet) (s : State) : (s.putPallet n p).obk = s.obk := rfl
@[simp] theorem putPallet_cku (n : TrackNo) (p : Option Pallet) (s : State) : (s.putPallet n p).cku = s.cku := rfl
@[simp] theorem putPallet_znc (n : TrackNo) (p : Option Pallet) (s : State) : (s.putPallet n p).znc = s.znc := rfl
@[simp] theorem putPallet_wsq (n : TrackNo) (p : Option Pallet) (s : State) : (s.putPallet n p).wsq = s.wsq := rfl
@[simp] theorem putPallet_lbu (n : TrackNo) (p : Option Pallet) (s : State) : (s.putPallet n p).lbu = s.lbu := rfl
@[simp] theorem putPallet_lnu (n : TrackNo) (p : Option Pallet) (s : State) : (s.putPallet n p).lnu = s.lnu := rfl
@[simp] theorem putPallet_sdu (n : TrackNo) (p : Option Pallet) (s : State) : (s.putPallet n p).sdu = s.sdu := rfl
@[simp] theorem putPallet_lku (n : TrackNo) (p : Option Pallet) (s : State) : (s.putPallet n p).lku = s.lku := rfl
@[simp] theorem putPallet_lsv (n : TrackNo) (p : Option Pallet) (s : State) : (s.putPallet n p).lsv = s.lsv := rfl
@[simp] theorem putPallet_pins (n : TrackNo) (p : Option Pallet) (s : State) : (s.putPallet n p).pins = s.pins := rfl
@[simp] theorem putPallet_ports (n : TrackNo) (p : Option Pallet) (s : State) : (s.putPallet n p).ports = s.ports := rfl
@[simp] theorem putPallet_freeCount (n : TrackNo) (p : Option Pallet) (s : State) : (s.putPallet n p).freeCount = s.freeCount := rfl
@[simp] theorem putPallet_pending (n : TrackNo) (p : Option Pallet) (s : State) : (s.putPallet n p).pending = s.pending := rfl

/-! ### putZone -/

@[simp] theorem putZone_trt (z : Zone) (r : ZoneRecord) (s : State) : (s.putZone z r).trt = s.trt := rfl
@[simp] theorem putZone_obk (z : Zone) (r : ZoneRecord) (s : State) : (s.putZone z r).obk = s.obk := rfl
@[simp] theorem putZone_cku (z : Zone) (r : ZoneRecord) (s : State) : (s.putZone z r).cku = s.cku := rfl
@[simp] theorem putZone_znc (z : Zone) (r : ZoneRecord) (s : State) : (s.putZone z r).znc = { s.znc with zones := s.znc.zones.set z.idx r } := rfl
@[simp] theorem putZone_wsq (z : Zone) (r : ZoneRecord) (s : State) : (s.putZone z r).wsq = s.wsq := rfl
@[simp] theorem putZone_lbu (z : Zone) (r : ZoneRecord) (s : State) : (s.putZone z r).lbu = s.lbu := rfl
@[simp] theorem putZone_lnu (z : Zone) (r : ZoneRecord) (s : State) : (s.putZone z r).lnu = s.lnu := rfl
@[simp] theorem putZone_sdu (z : Zone) (r : ZoneRecord) (s : State) : (s.putZone z r).sdu = s.sdu := rfl
@[simp] theorem putZone_lku (z : Zone) (r : ZoneRecord) (s : State) : (s.putZone z r).lku = s.lku := rfl
@[simp] theorem putZone_lsv (z : Zone) (r : ZoneRecord) (s : State) : (s.putZone z r).lsv = s.lsv := rfl
@[simp] theorem putZone_pins (z : Zone) (r : ZoneRecord) (s : State) : (s.putZone z r).pins = s.pins := rfl
@[simp] theorem putZone_ports (z : Zone) (r : ZoneRecord) (s : State) : (s.putZone z r).ports = s.ports := rfl
@[simp] theorem putZone_freeCount (z : Zone) (r : ZoneRecord) (s : State) : (s.putZone z r).freeCount = s.freeCount := rfl
@[simp] theorem putZone_pending (z : Zone) (r : ZoneRecord) (s : State) : (s.putZone z r).pending = s.pending := rfl

/-! ### putWrapper -/

@[simp] theorem putWrapper_trt (w : Wrapper) (r : WrapperRecord) (s : State) : (s.putWrapper w r).trt = s.trt := rfl
@[simp] theorem putWrapper_obk (w : Wrapper) (r : WrapperRecord) (s : State) : (s.putWrapper w r).obk = s.obk := rfl
@[simp] theorem putWrapper_cku (w : Wrapper) (r : WrapperRecord) (s : State) : (s.putWrapper w r).cku = s.cku := rfl
@[simp] theorem putWrapper_znc (w : Wrapper) (r : WrapperRecord) (s : State) : (s.putWrapper w r).znc = s.znc := rfl
@[simp] theorem putWrapper_wsq (w : Wrapper) (r : WrapperRecord) (s : State) : (s.putWrapper w r).wsq = s.wsq.setWrapper w r := rfl
@[simp] theorem putWrapper_lbu (w : Wrapper) (r : WrapperRecord) (s : State) : (s.putWrapper w r).lbu = s.lbu := rfl
@[simp] theorem putWrapper_lnu (w : Wrapper) (r : WrapperRecord) (s : State) : (s.putWrapper w r).lnu = s.lnu := rfl
@[simp] theorem putWrapper_sdu (w : Wrapper) (r : WrapperRecord) (s : State) : (s.putWrapper w r).sdu = s.sdu := rfl
@[simp] theorem putWrapper_lku (w : Wrapper) (r : WrapperRecord) (s : State) : (s.putWrapper w r).lku = s.lku := rfl
@[simp] theorem putWrapper_lsv (w : Wrapper) (r : WrapperRecord) (s : State) : (s.putWrapper w r).lsv = s.lsv := rfl
@[simp] theorem putWrapper_pins (w : Wrapper) (r : WrapperRecord) (s : State) : (s.putWrapper w r).pins = s.pins := rfl
@[simp] theorem putWrapper_ports (w : Wrapper) (r : WrapperRecord) (s : State) : (s.putWrapper w r).ports = s.ports := rfl
@[simp] theorem putWrapper_freeCount (w : Wrapper) (r : WrapperRecord) (s : State) : (s.putWrapper w r).freeCount = s.freeCount := rfl
@[simp] theorem putWrapper_pending (w : Wrapper) (r : WrapperRecord) (s : State) : (s.putWrapper w r).pending = s.pending := rfl

/-! ### putLane -/

@[simp] theorem putLane_trt (n : Lane) (r : LaneRecord) (s : State) : (s.putLane n r).trt = s.trt := rfl
@[simp] theorem putLane_obk (n : Lane) (r : LaneRecord) (s : State) : (s.putLane n r).obk = s.obk := rfl
@[simp] theorem putLane_cku (n : Lane) (r : LaneRecord) (s : State) : (s.putLane n r).cku = s.cku := rfl
@[simp] theorem putLane_znc (n : Lane) (r : LaneRecord) (s : State) : (s.putLane n r).znc = s.znc := rfl
@[simp] theorem putLane_wsq (n : Lane) (r : LaneRecord) (s : State) : (s.putLane n r).wsq = s.wsq := rfl
@[simp] theorem putLane_lbu (n : Lane) (r : LaneRecord) (s : State) : (s.putLane n r).lbu = s.lbu := rfl
@[simp] theorem putLane_lnu (n : Lane) (r : LaneRecord) (s : State) : (s.putLane n r).lnu = s.lnu.set n r := rfl
@[simp] theorem putLane_sdu (n : Lane) (r : LaneRecord) (s : State) : (s.putLane n r).sdu = s.sdu := rfl
@[simp] theorem putLane_lku (n : Lane) (r : LaneRecord) (s : State) : (s.putLane n r).lku = s.lku := rfl
@[simp] theorem putLane_lsv (n : Lane) (r : LaneRecord) (s : State) : (s.putLane n r).lsv = s.lsv := rfl
@[simp] theorem putLane_pins (n : Lane) (r : LaneRecord) (s : State) : (s.putLane n r).pins = s.pins := rfl
@[simp] theorem putLane_ports (n : Lane) (r : LaneRecord) (s : State) : (s.putLane n r).ports = s.ports := rfl
@[simp] theorem putLane_freeCount (n : Lane) (r : LaneRecord) (s : State) : (s.putLane n r).freeCount = s.freeCount := rfl
@[simp] theorem putLane_pending (n : Lane) (r : LaneRecord) (s : State) : (s.putLane n r).pending = s.pending := rfl

end Sys2Proof.Machine.State
end

