-- ==== Sys2Proof/Laws/Access.lean ====
section
/-! SUPPORT. Reading back what was written: a pallet record, a zone, a wrapper, a lane, an order, each read after each of
its writes, at the same place and at another. -/

namespace Sys2Proof

/-- The place of a zone in the list of all zones. -/
theorem Zone.all_getElem_idx (z : Zone) : Zone.all[z.idx.val]? = some z := by
  have gates : ∀ n : Lane, Zone.all[(Zone.gate n).idx.val]? = some (.gate n) := by decide
  have spurs : ∀ k : Fin 4, Zone.all[(Zone.sp k).idx.val]? = some (.sp k) := by decide
  cases z with
  | gate n => exact gates n
  | sp k => exact spurs k
  | wrap w => cases w <;> rfl
  | out w => cases w <;> rfl
  | _ => rfl

theorem Zone.idx_injective (z y : Zone) (h : z.idx = y.idx) : z = y :=
  Option.some.inj ((all_getElem_idx z).symm.trans (h ▸ all_getElem_idx y))

theorem Zone.idx_eq {z y : Zone} : z.idx = y.idx ↔ z = y := ⟨idx_injective z y, fun h => by rw [h]⟩

end Sys2Proof

namespace Sys2Proof.Machine

@[simp] theorem Pair.wrapper_setWrapper {α : Type} (p : Pair α) (w v : Wrapper) (x : α) :
    (p.setWrapper w x).wrapper v = if v = w then x else p.wrapper v := by
  cases w <;> cases v <;> rfl

@[simp] theorem Pair.face_setFace {α : Type} (p : Pair α) (f g : Face) (x : α) :
    (p.setFace f x).face g = if g = f then x else p.face g := by
  cases f <;> cases g <;> rfl

theorem Pair.setWrapper_self {α : Type} (p : Pair α) (w : Wrapper) : p.setWrapper w (p.wrapper w) = p := by
  cases w <;> rfl

@[simp] theorem Pair.setWrapper_setWrapper {α : Type} (p : Pair α) (w : Wrapper) (x y : α) :
    (p.setWrapper w x).setWrapper w y = p.setWrapper w y := by
  cases w <;> rfl

@[simp] theorem Pair.setFace_setFace {α : Type} (p : Pair α) (f : Face) (x y : α) :
    (p.setFace f x).setFace f y = p.setFace f y := by
  cases f <;> rfl

namespace State

/-! ### Pallet records -/

@[simp] theorem pallet_putPallet (n m : TrackNo) (p : Option Pallet) (s : State) :
    (s.putPallet n p).pallet m = if m = n then p else s.pallet m := by
  show (s.trt.pallets.set n p)[m] = _
  rw [Fin.getElem_fin, Vector.getElem_set]
  by_cases h : n = m
  · subst h; simp
  · rw [if_neg (Fin.val_ne_of_ne h), if_neg (Ne.symm h)]; rfl

@[simp] theorem pallet_modPallet (n m : TrackNo) (f : Pallet → Pallet) (s : State) :
    (s.modPallet n f).pallet m = if m = n then (s.pallet n).map f else s.pallet m := by
  unfold modPallet
  split
  · rename_i p h; simp [h]
  · rename_i h; split
    · rename_i h'; simp [h', h]
    · rfl

theorem modPallet_of {n : TrackNo} {p : Pallet} {s : State} (h : s.pallet n = some p) (f : Pallet → Pallet) :
    s.modPallet n f = s.putPallet n (some (f p)) := by
  simp [modPallet, h]

theorem modPallet_none {n : TrackNo} {s : State} (h : s.pallet n = none) (f : Pallet → Pallet) :
    s.modPallet n f = s := by
  simp [modPallet, h]

/-- The records are the track's alone. -/
theorem pallet_congr {s t : State} (h : s.trt = t.trt) (n : TrackNo) : s.pallet n = t.pallet n := by
  simp [pallet, h]

/-! ### Zones -/

@[simp] theorem zone_putZone (z y : Zone) (r : ZoneRecord) (s : State) :
    (s.putZone z r).zone y = if y = z then r else s.zone y := by
  show (s.znc.zones.set z.idx r)[y.idx] = _
  rw [Fin.getElem_fin, Vector.getElem_set]
  by_cases h : z = y
  · subst h; simp
  · have : z.idx.val ≠ y.idx.val := fun h' => h (Zone.idx_injective _ _ (Fin.ext h'))
    rw [if_neg this, if_neg (Ne.symm h)]; rfl

@[simp] theorem zone_modZone (z y : Zone) (f : ZoneRecord → ZoneRecord) (s : State) :
    (s.modZone z f).zone y = if y = z then f (s.zone z) else s.zone y := by
  simp [modZone]

@[simp] theorem zone_freeZone (z y : Zone) (s : State) :
    (s.freeZone z).zone y = if y = z then { ZoneRecord.free with eye := (s.zone z).eye } else s.zone y := by
  simp [freeZone]

@[simp] theorem zone_untrackZone (z y : Zone) (s : State) : (s.untrackZone z).zone y =
    if y = z then { ZoneRecord.free with eye := (s.zone z).eye, state := .untracked } else s.zone y := by
  simp [untrackZone]

theorem zone_congr {s t : State} (h : s.znc = t.znc) (z : Zone) : s.zone z = t.zone z := by
  simp [zone, h]

/-! ### Wrappers and lanes -/

@[simp] theorem wrapper_putWrapper (w v : Wrapper) (r : WrapperRecord) (s : State) :
    (s.putWrapper w r).wrapper v = if v = w then r else s.wrapper v := by
  simp [putWrapper, wrapper]

@[simp] theorem wrapper_modWrapper (w v : Wrapper) (f : WrapperRecord → WrapperRecord) (s : State) :
    (s.modWrapper w f).wrapper v = if v = w then f (s.wrapper w) else s.wrapper v := by
  simp [modWrapper]

@[simp] theorem putWrapper_putWrapper (w : Wrapper) (r q : WrapperRecord) (s : State) :
    (s.putWrapper w r).putWrapper w q = s.putWrapper w q := by
  simp [putWrapper]

theorem wrapper_congr {s t : State} (h : s.wsq = t.wsq) (w : Wrapper) : s.wrapper w = t.wrapper w := by
  simp [wrapper, h]

@[simp] theorem lane_putLane (n m : Lane) (r : LaneRecord) (s : State) :
    (s.putLane n r).lane m = if m = n then r else s.lane m := by
  show (s.lnu.set n r)[m] = _
  rw [Fin.getElem_fin, Vector.getElem_set]
  by_cases h : n = m
  · subst h; simp
  · rw [if_neg (Fin.val_ne_of_ne h), if_neg (Ne.symm h)]; rfl

@[simp] theorem lane_modLane (n m : Lane) (f : LaneRecord → LaneRecord) (s : State) :
    (s.modLane n f).lane m = if m = n then f (s.lane n) else s.lane m := by
  simp [modLane]

theorem lane_congr {s t : State} (h : s.lnu = t.lnu) (n : Lane) : s.lane n = t.lane n := by
  simp [lane, h]

/-! ### Orders -/

/-- An order that keeps its number is found again after its change, and every other as it was. -/
theorem order_modOrder (number m : Nat) (f : Order → Order) (s : State) (h : ∀ o, (f o).number = o.number) :
    (s.modOrder number f).order m = if m = number then (s.order m).map f else s.order m := by
  show (s.obk.orders.map fun o => if o.number = number then f o else o).find? (·.number == m) = _
  unfold order
  induction s.obk.orders with
  | nil => simp
  | cons o rest ih =>
    simp only [List.map_cons, List.find?_cons]
    by_cases ho : o.number = number
    · simp only [ho, if_true]
      by_cases hm : m = number
      · subst hm; simp [h, ho]
      · have h1 : (number == m) = false := by simp [Ne.symm hm]
        simp only [h, ho, h1, ih]
    · simp only [ho, if_false]
      by_cases h1 : o.number = m
      · subst h1; simp [ho]
      · have h2 : (o.number == m) = false := by simp [h1]
        simp only [h2, ih]

theorem order_congr {s t : State} (h : s.obk = t.obk) (number : Nat) : s.order number = t.order number := by
  simp [order, h]

/-! ### Each block's reader after the updates of the other blocks -/

@[simp] theorem modCku_pallet (f : CheckUnit → CheckUnit) (s : State) (n : TrackNo) :
    (s.modCku f).pallet n = s.pallet n := rfl
@[simp] theorem modZnc_pallet (f : ZoneUnit → ZoneUnit) (s : State) (n : TrackNo) :
    (s.modZnc f).pallet n = s.pallet n := rfl
@[simp] theorem modLbu_pallet (f : LabelUnit → LabelUnit) (s : State) (n : TrackNo) :
    (s.modLbu f).pallet n = s.pallet n := rfl
@[simp] theorem modLku_pallet (f : Link → Link) (s : State) (n : TrackNo) :
    (s.modLku f).pallet n = s.pallet n := rfl
@[simp] theorem modLsv_pallet (f : Supervisor → Supervisor) (s : State) (n : TrackNo) :
    (s.modLsv f).pallet n = s.pallet n := rfl
@[simp] theorem modPorts_pallet (f : Ports → Ports) (s : State) (n : TrackNo) :
    (s.modPorts f).pallet n = s.pallet n := rfl
@[simp] theorem putZone_pallet (z : Zone) (r : ZoneRecord) (s : State) (n : TrackNo) :
    (s.putZone z r).pallet n = s.pallet n := rfl
@[simp] theorem putWrapper_pallet (w : Wrapper) (r : WrapperRecord) (s : State) (n : TrackNo) :
    (s.putWrapper w r).pallet n = s.pallet n := rfl
@[simp] theorem modWrapper_pallet (w : Wrapper) (f : WrapperRecord → WrapperRecord) (s : State) (n : TrackNo) :
    (s.modWrapper w f).pallet n = s.pallet n := rfl
@[simp] theorem putPallet_zone (n : TrackNo) (p : Option Pallet) (s : State) (z : Zone) :
    (s.putPallet n p).zone z = s.zone z := rfl
@[simp] theorem modPallet_zone (n : TrackNo) (f : Pallet → Pallet) (s : State) (z : Zone) :
    (s.modPallet n f).zone z = s.zone z := by
  unfold modPallet; split <;> rfl
@[simp] theorem putPallet_wrapper (n : TrackNo) (p : Option Pallet) (s : State) (w : Wrapper) :
    (s.putPallet n p).wrapper w = s.wrapper w := rfl
@[simp] theorem putPallet_lane (n : TrackNo) (p : Option Pallet) (s : State) (m : Lane) :
    (s.putPallet n p).lane m = s.lane m := rfl
@[simp] theorem modPorts_wrapper (f : Ports → Ports) (s : State) (w : Wrapper) :
    (s.modPorts f).wrapper w = s.wrapper w := rfl
@[simp] theorem modLku_wrapper (f : Link → Link) (s : State) (w : Wrapper) :
    (s.modLku f).wrapper w = s.wrapper w := rfl
@[simp] theorem modLku_zone (f : Link → Link) (s : State) (z : Zone) : (s.modLku f).zone z = s.zone z := rfl
@[simp] theorem modLku_lane (f : Link → Link) (s : State) (n : Lane) : (s.modLku f).lane n = s.lane n := rfl

/-! ### Writes at different places commute: the pallet records innermost, then the zones, then the wrappers -/

@[simp] theorem putPallet_putWrapper (n : TrackNo) (p : Option Pallet) (w : Wrapper) (r : WrapperRecord) (s : State) :
    (s.putWrapper w r).putPallet n p = (s.putPallet n p).putWrapper w r := rfl
@[simp] theorem putPallet_putZone (n : TrackNo) (p : Option Pallet) (z : Zone) (r : ZoneRecord) (s : State) :
    (s.putZone z r).putPallet n p = (s.putPallet n p).putZone z r := rfl
@[simp] theorem putZone_putWrapper (z : Zone) (r : ZoneRecord) (w : Wrapper) (q : WrapperRecord) (s : State) :
    (s.putWrapper w q).putZone z r = (s.putZone z r).putWrapper w q := rfl

/-! ### Writing twice -/

@[simp] theorem putPallet_putPallet (n : TrackNo) (p q : Option Pallet) (s : State) :
    (s.putPallet n p).putPallet n q = s.putPallet n q := by
  simp [putPallet, modTrt]

@[simp] theorem putZone_putZone (z : Zone) (r q : ZoneRecord) (s : State) :
    (s.putZone z r).putZone z q = s.putZone z q := by
  simp [putZone, modZnc]

@[simp] theorem putLane_putLane (n : Lane) (r q : LaneRecord) (s : State) :
    (s.putLane n r).putLane n q = s.putLane n q := by
  simp [putLane]

end State

end Sys2Proof.Machine
end

