-- ==== Sys2Proof/Laws/Bytes.lean ====
section
/-! SUPPORT. What is written field by field reads back: one lemma per field form of R212. -/

namespace Sys2Proof.Machine

@[simp] theorem toNat_byte (n : Nat) : (byte n).toNat = n % 256 := by simp [byte]

@[simp] theorem rdU8_u8 (n : Nat) (rest : List Byte) : rdU8 (u8 n ++ rest) = some (n % 256, rest) := by
  simp [u8, rdU8]

@[simp] theorem rdU16_u16 (n : Nat) (rest : List Byte) : rdU16 (u16 n ++ rest) = some (n % 65536, rest) := by
  simp only [u16, rdU16, List.cons_append, List.nil_append, toNat_byte, Option.some.injEq, Prod.mk.injEq, and_true]
  omega

@[simp] theorem rdU32_u32 (n : Nat) (rest : List Byte) : rdU32 (u32 n ++ rest) = some (n % 4294967296, rest) := by
  simp only [u32, rdU32, List.cons_append, List.nil_append, toNat_byte, Option.some.injEq, Prod.mk.injEq, and_true]
  omega

theorem rdText_textBytes (t : Text) (h : t.length ≤ 255) (rest : List Byte) :
    rdText (textBytes t ++ rest) = some (t, rest) := by
  have hm : t.length % 256 = t.length := Nat.mod_eq_of_lt (by omega)
  simp [textBytes, rdText, hm]

theorem rdU16s_flatten (l : List Nat) (h : ∀ n ∈ l, n < 65536) (rest : List Byte) :
    rdU16s l.length ((l.map u16).flatten ++ rest) = some (l, rest) := by
  induction l with
  | nil => simp [rdU16s]
  | cons a l ih =>
    have ha : a % 65536 = a := Nat.mod_eq_of_lt (h a (by simp))
    simp [rdU16s, ha, ih fun n hn => h n (by simp [hn])]

theorem rdU8s_flatten (l : List Nat) (h : ∀ n ∈ l, n < 256) (rest : List Byte) :
    rdU8s l.length ((l.map u8).flatten ++ rest) = some (l, rest) := by
  induction l with
  | nil => simp [rdU8s]
  | cons a l ih =>
    have ha : a % 256 = a := Nat.mod_eq_of_lt (h a (by simp))
    simp [rdU8s, ha, ih fun n hn => h n (by simp [hn])]

@[simp] theorem rdEnd_nil {α : Type} (x : α) : rdEnd x [] = some x := rfl

@[simp] theorem rdOne8_u8 (n : Nat) : rdOne8 (u8 n) = some (n % 256) := by
  simp [rdOne8, u8, rdU8]

/-! ### Named things -/

@[simp] theorem ofNumber_track (n : TrackNo) : TrackNo.ofNumber (n.number % 256) = some n := by
  revert n; decide

@[simp] theorem ofNumber_lane (n : Lane) : Lane.ofNumber (n.number % 256) = some n := by
  revert n; decide

@[simp] theorem ofNumber_wrapper (w : Wrapper) : Wrapper.ofNumber (w.number % 256) = some w := by
  cases w <;> rfl

@[simp] theorem ofCode_zone (z : Zone) : Zone.ofCode (z.code % 256) = some z := by
  cases z with
  | wrap w => cases w <;> rfl
  | out w => cases w <;> rfl
  | gate n => revert n; decide
  | sp k => revert k; decide
  | _ => rfl

@[simp] theorem recipeEntry_number (i : Fin 16) : recipeEntry ((i.val + 1) % 256) = some i := by
  revert i; decide

/-! ### Operands -/

@[simp] theorem firstBad_nil : firstBad [] = none := rfl

theorem firstBad_cons (good : Bool) (st : Status) (rest : List (Bool × Status)) :
    firstBad ((good, st) :: rest) = if good then firstBad rest else some st := rfl

theorem range_good {lo hi n : Nat} (h : lo ≤ n) (h' : n ≤ hi) : range lo hi n = (true, .outOfRange) := by
  simp [range, within, h, h']

@[simp] theorem argTrack_u8 (n : TrackNo) : argTrack (u8 n.number) = .ok n := by
  simp [argTrack, structured, named, bind, Except.bind]

@[simp] theorem argLane_u8 (n : Lane) : argLane (u8 n.number) = .ok n := by
  simp [argLane, structured, named, bind, Except.bind]

@[simp] theorem argWrapper_u8 (w : Wrapper) : argWrapper (u8 w.number) = .ok w := by
  simp [argWrapper, structured, named, bind, Except.bind]

@[simp] theorem argZone_u8 (z : Zone) : argZone (u8 z.code) = .ok z := by
  simp [argZone, structured, named, bind, Except.bind]

theorem argOrder_u32 {n : Nat} (h : 1 ≤ n) (h' : n ≤ 999999) : argOrder (u32 n) = .ok n := by
  have hm : n % 4294967296 = n := Nat.mod_eq_of_lt (by omega)
  have hr := rdU32_u32 n []
  rw [List.append_nil, hm] at hr
  simp [argOrder, structured, hr, bind, Except.bind, checkedBy, firstBad_cons, range_good h h']

end Sys2Proof.Machine
end

