-- ==== Sys2Proof/Laws/Frames.lean ====
section
/-! SUPPORT. Which blocks each shared operation leaves as they were: one lemma per operation, and for an operation that
also gives a value one lemma about the state it gives. -/

namespace Sys2Proof.Machine.State

@[simp] theorem foldl_trt {α : Type} (f : State → α → State) (l : List α) (s : State)
    (h : ∀ s a, (f s a).trt = s.trt) : (l.foldl f s).trt = s.trt := by
  induction l generalizing s with
  | nil => rfl
  | cons a l ih => rw [List.foldl_cons, ih, h]

@[simp] theorem foldl_obk {α : Type} (f : State → α → State) (l : List α) (s : State)
    (h : ∀ s a, (f s a).obk = s.obk) : (l.foldl f s).obk = s.obk := by
  induction l generalizing s with
  | nil => rfl
  | cons a l ih => rw [List.foldl_cons, ih, h]

@[simp] theorem foldl_cku {α : Type} (f : State → α → State) (l : List α) (s : State)
    (h : ∀ s a, (f s a).cku = s.cku) : (l.foldl f s).cku = s.cku := by
  induction l generalizing s with
  | nil => rfl
  | cons a l ih => rw [List.foldl_cons, ih, h]

@[simp] theorem foldl_znc {α : Type} (f : State → α → State) (l : List α) (s : State)
    (h : ∀ s a, (f s a).znc = s.znc) : (l.foldl f s).znc = s.znc := by
  induction l generalizing s with
  | nil => rfl
  | cons a l ih => rw [List.foldl_cons, ih, h]

@[simp] theorem foldl_wsq {α : Type} (f : State → α → State) (l : List α) (s : State)
    (h : ∀ s a, (f s a).wsq = s.wsq) : (l.foldl f s).wsq = s.wsq := by
  induction l generalizing s with
  | nil => rfl
  | cons a l ih => rw [List.foldl_cons, ih, h]

@[simp] theorem foldl_lbu {α : Type} (f : State → α → State) (l : List α) (s : State)
    (h : ∀ s a, (f s a).lbu = s.lbu) : (l.foldl f s).lbu = s.lbu := by
  induction l generalizing s with
  | nil => rfl
  | cons a l ih => rw [List.foldl_cons, ih, h]

@[simp] theorem foldl_lnu {α : Type} (f : State → α → State) (l : List α) (s : State)
    (h : ∀ s a, (f s a).lnu = s.lnu) : (l.foldl f s).lnu = s.lnu := by
  induction l generalizing s with
  | nil => rfl
  | cons a l ih => rw [List.foldl_cons, ih, h]

@[simp] theorem foldl_sdu {α : Type} (f : State → α → State) (l : List α) (s : State)
    (h : ∀ s a, (f s a).sdu = s.sdu) : (l.foldl f s).sdu = s.sdu := by
  induction l generalizing s with
  | nil => rfl
  | cons a l ih => rw [List.foldl_cons, ih, h]

@[simp] theorem foldl_lku {α : Type} (f : State → α → State) (l : List α) (s : State)
    (h : ∀ s a, (f s a).lku = s.lku) : (l.foldl f s).lku = s.lku := by
  induction l generalizing s with
  | nil => rfl
  | cons a l ih => rw [List.foldl_cons, ih, h]

@[simp] theorem foldl_lsv {α : Type} (f : State → α → State) (l : List α) (s : State)
    (h : ∀ s a, (f s a).lsv = s.lsv) : (l.foldl f s).lsv = s.lsv := by
  induction l generalizing s with
  | nil => rfl
  | cons a l ih => rw [List.foldl_cons, ih, h]

@[simp] theorem foldl_pins {α : Type} (f : State → α → State) (l : List α) (s : State)
    (h : ∀ s a, (f s a).pins = s.pins) : (l.foldl f s).pins = s.pins := by
  induction l generalizing s with
  | nil => rfl
  | cons a l ih => rw [List.foldl_cons, ih, h]

@[simp] theorem foldl_ports {α : Type} (f : State → α → State) (l : List α) (s : State)
    (h : ∀ s a, (f s a).ports = s.ports) : (l.foldl f s).ports = s.ports := by
  induction l generalizing s with
  | nil => rfl
  | cons a l ih => rw [List.foldl_cons, ih, h]

@[simp] theorem foldl_freeCount {α : Type} (f : State → α → State) (l : List α) (s : State)
    (h : ∀ s a, (f s a).freeCount = s.freeCount) : (l.foldl f s).freeCount = s.freeCount := by
  induction l generalizing s with
  | nil => rfl
  | cons a l ih => rw [List.foldl_cons, ih, h]

@[simp] theorem foldl_pending {α : Type} (f : State → α → State) (l : List α) (s : State)
    (h : ∀ s a, (f s a).pending = s.pending) : (l.foldl f s).pending = s.pending := by
  induction l generalizing s with
  | nil => rfl
  | cons a l ih => rw [List.foldl_cons, ih, h]

@[simp] theorem draw_frame (s : State) :
    s.draw.2.trt = s.trt ∧ s.draw.2.obk = s.obk ∧ s.draw.2.cku = s.cku ∧ s.draw.2.znc = s.znc ∧
    s.draw.2.wsq = s.wsq ∧ s.draw.2.lbu = s.lbu ∧ s.draw.2.lnu = s.lnu ∧ s.draw.2.sdu = s.sdu ∧
    s.draw.2.lku = s.lku ∧ s.draw.2.lsv = s.lsv ∧ s.draw.2.pins = s.pins ∧ s.draw.2.ports = s.ports ∧
    s.draw.2.pending = s.pending := by
  simp [draw]

@[simp] theorem pump_frame (s : State) :
    s.pump.trt = s.trt ∧ s.pump.obk = s.obk ∧ s.pump.cku = s.cku ∧ s.pump.znc = s.znc ∧ s.pump.wsq = s.wsq ∧
    s.pump.lbu = s.lbu ∧ s.pump.lnu = s.lnu ∧ s.pump.sdu = s.sdu ∧ s.pump.lsv = s.lsv ∧ s.pump.pins = s.pins ∧
    s.pump.ports = s.ports ∧ s.pump.freeCount = s.freeCount ∧ s.pump.pending = s.pending := by
  unfold pump
  repeat' first | simp | split

@[simp] theorem testInfeed_frame (s : State) :
    s.testInfeed.trt = s.trt ∧ s.testInfeed.obk = s.obk ∧ s.testInfeed.cku = s.cku ∧ s.testInfeed.wsq = s.wsq ∧
    s.testInfeed.lbu = s.lbu ∧ s.testInfeed.lnu = s.lnu ∧ s.testInfeed.sdu = s.sdu ∧ s.testInfeed.lku = s.lku ∧
    s.testInfeed.lsv = s.lsv ∧ s.testInfeed.pins = s.pins ∧ s.testInfeed.ports = s.ports ∧
    s.testInfeed.freeCount = s.freeCount ∧ s.testInfeed.pending = s.pending := by
  simp [testInfeed]

/-- A choice between two states that agree with a third on a block. -/
theorem ite_block {α : Type} (b : State → α) (c : Prop) [Decidable c] {x : α} {p q : State} (hp : b p = x)
    (hq : b q = x) : b (if c then p else q) = x := by
  split <;> assumption

/-! ### Ops -/

@[simp] theorem modPallet_frame (n : TrackNo) (f : Pallet → Pallet) (s : State) :
    (s.modPallet n f).obk = s.obk ∧ (s.modPallet n f).cku = s.cku ∧ (s.modPallet n f).znc = s.znc ∧
    (s.modPallet n f).wsq = s.wsq ∧ (s.modPallet n f).lbu = s.lbu ∧ (s.modPallet n f).lnu = s.lnu ∧
    (s.modPallet n f).sdu = s.sdu ∧ (s.modPallet n f).lku = s.lku ∧ (s.modPallet n f).lsv = s.lsv ∧
    (s.modPallet n f).pins = s.pins ∧ (s.modPallet n f).ports = s.ports ∧ (s.modPallet n f).freeCount = s.freeCount ∧
    (s.modPallet n f).pending = s.pending := by
  unfold modPallet
  repeat' first | simp | split

@[simp] theorem modZone_frame (z : Zone) (f : ZoneRecord → ZoneRecord) (s : State) :
    (s.modZone z f).trt = s.trt ∧ (s.modZone z f).obk = s.obk ∧ (s.modZone z f).cku = s.cku ∧
    (s.modZone z f).wsq = s.wsq ∧ (s.modZone z f).lbu = s.lbu ∧ (s.modZone z f).lnu = s.lnu ∧
    (s.modZone z f).sdu = s.sdu ∧ (s.modZone z f).lku = s.lku ∧ (s.modZone z f).lsv = s.lsv ∧
    (s.modZone z f).pins = s.pins ∧ (s.modZone z f).ports = s.ports ∧ (s.modZone z f).freeCount = s.freeCount ∧
    (s.modZone z f).pending = s.pending := by
  unfold modZone
  repeat' first | simp | split

@[simp] theorem freeZone_frame (z : Zone) (s : State) :
    (s.freeZone z).trt = s.trt ∧ (s.freeZone z).obk = s.obk ∧ (s.freeZone z).cku = s.cku ∧
    (s.freeZone z).wsq = s.wsq ∧ (s.freeZone z).lbu = s.lbu ∧ (s.freeZone z).lnu = s.lnu ∧
    (s.freeZone z).sdu = s.sdu ∧ (s.freeZone z).lku = s.lku ∧ (s.freeZone z).lsv = s.lsv ∧
    (s.freeZone z).pins = s.pins ∧ (s.freeZone z).ports = s.ports ∧ (s.freeZone z).freeCount = s.freeCount ∧
    (s.freeZone z).pending = s.pending := by
  unfold freeZone
  repeat' first | simp | split

@[simp] theorem untrackZone_frame (z : Zone) (s : State) :
    (s.untrackZone z).trt = s.trt ∧ (s.untrackZone z).obk = s.obk ∧ (s.untrackZone z).cku = s.cku ∧
    (s.untrackZone z).wsq = s.wsq ∧ (s.untrackZone z).lbu = s.lbu ∧ (s.untrackZone z).lnu = s.lnu ∧
    (s.untrackZone z).sdu = s.sdu ∧ (s.untrackZone z).lku = s.lku ∧ (s.untrackZone z).lsv = s.lsv ∧
    (s.untrackZone z).pins = s.pins ∧ (s.untrackZone z).ports = s.ports ∧ (s.untrackZone z).freeCount = s.freeCount ∧
    (s.untrackZone z).pending = s.pending := by
  unfold untrackZone
  repeat' first | simp | split

@[simp] theorem modWrapper_frame (w : Wrapper) (f : WrapperRecord → WrapperRecord) (s : State) :
    (s.modWrapper w f).trt = s.trt ∧ (s.modWrapper w f).obk = s.obk ∧ (s.modWrapper w f).cku = s.cku ∧
    (s.modWrapper w f).znc = s.znc ∧ (s.modWrapper w f).lbu = s.lbu ∧ (s.modWrapper w f).lnu = s.lnu ∧
    (s.modWrapper w f).sdu = s.sdu ∧ (s.modWrapper w f).lku = s.lku ∧ (s.modWrapper w f).lsv = s.lsv ∧
    (s.modWrapper w f).pins = s.pins ∧ (s.modWrapper w f).ports = s.ports ∧
    (s.modWrapper w f).freeCount = s.freeCount ∧ (s.modWrapper w f).pending = s.pending := by
  unfold modWrapper
  repeat' first | simp | split

@[simp] theorem modLane_frame (n : Lane) (f : LaneRecord → LaneRecord) (s : State) :
    (s.modLane n f).trt = s.trt ∧ (s.modLane n f).obk = s.obk ∧ (s.modLane n f).cku = s.cku ∧
    (s.modLane n f).znc = s.znc ∧ (s.modLane n f).wsq = s.wsq ∧ (s.modLane n f).lbu = s.lbu ∧
    (s.modLane n f).sdu = s.sdu ∧ (s.modLane n f).lku = s.lku ∧ (s.modLane n f).lsv = s.lsv ∧
    (s.modLane n f).pins = s.pins ∧ (s.modLane n f).ports = s.ports ∧ (s.modLane n f).freeCount = s.freeCount ∧
    (s.modLane n f).pending = s.pending := by
  unfold modLane
  repeat' first | simp | split

@[simp] theorem modOrder_frame (number : Nat) (f : Order → Order) (s : State) :
    (s.modOrder number f).trt = s.trt ∧ (s.modOrder number f).cku = s.cku ∧ (s.modOrder number f).znc = s.znc ∧
    (s.modOrder number f).wsq = s.wsq ∧ (s.modOrder number f).lbu = s.lbu ∧ (s.modOrder number f).lnu = s.lnu ∧
    (s.modOrder number f).sdu = s.sdu ∧ (s.modOrder number f).lku = s.lku ∧ (s.modOrder number f).lsv = s.lsv ∧
    (s.modOrder number f).pins = s.pins ∧ (s.modOrder number f).ports = s.ports ∧
    (s.modOrder number f).freeCount = s.freeCount ∧ (s.modOrder number f).pending = s.pending := by
  unfold modOrder
  repeat' first | simp | split

@[simp] theorem notify_frame (e : Event) (s : State) :
    (s.notify e).trt = s.trt ∧ (s.notify e).obk = s.obk ∧ (s.notify e).cku = s.cku ∧ (s.notify e).znc = s.znc ∧
    (s.notify e).wsq = s.wsq ∧ (s.notify e).lbu = s.lbu ∧ (s.notify e).lnu = s.lnu ∧ (s.notify e).sdu = s.sdu ∧
    (s.notify e).lsv = s.lsv ∧ (s.notify e).pins = s.pins ∧ (s.notify e).ports = s.ports ∧
    (s.notify e).freeCount = s.freeCount ∧ (s.notify e).pending = s.pending := by
  unfold notify
  repeat' first | simp | split

@[simp] theorem place_frame (a : Answer) (s : State) :
    (s.place a).trt = s.trt ∧ (s.place a).obk = s.obk ∧ (s.place a).cku = s.cku ∧ (s.place a).znc = s.znc ∧
    (s.place a).wsq = s.wsq ∧ (s.place a).lbu = s.lbu ∧ (s.place a).lnu = s.lnu ∧ (s.place a).sdu = s.sdu ∧
    (s.place a).lsv = s.lsv ∧ (s.place a).pins = s.pins ∧ (s.place a).ports = s.ports ∧
    (s.place a).freeCount = s.freeCount ∧ (s.place a).pending = s.pending := by
  unfold place
  repeat' first | simp | split

@[simp] theorem ask_frame (q : Question) (s : State) :
    (s.ask q).trt = s.trt ∧ (s.ask q).obk = s.obk ∧ (s.ask q).cku = s.cku ∧ (s.ask q).znc = s.znc ∧
    (s.ask q).wsq = s.wsq ∧ (s.ask q).lbu = s.lbu ∧ (s.ask q).lnu = s.lnu ∧ (s.ask q).sdu = s.sdu ∧
    (s.ask q).lsv = s.lsv ∧ (s.ask q).pins = s.pins ∧ (s.ask q).ports = s.ports ∧ (s.ask q).freeCount = s.freeCount ∧
    (s.ask q).pending = s.pending := by
  unfold ask
  repeat' first | simp | split

@[simp] theorem withdraw_frame (which : Question → Bool) (s : State) :
    (s.withdraw which).trt = s.trt ∧ (s.withdraw which).obk = s.obk ∧ (s.withdraw which).cku = s.cku ∧
    (s.withdraw which).znc = s.znc ∧ (s.withdraw which).wsq = s.wsq ∧ (s.withdraw which).lbu = s.lbu ∧
    (s.withdraw which).lnu = s.lnu ∧ (s.withdraw which).sdu = s.sdu ∧ (s.withdraw which).lsv = s.lsv ∧
    (s.withdraw which).pins = s.pins ∧ (s.withdraw which).ports = s.ports ∧
    (s.withdraw which).freeCount = s.freeCount ∧ (s.withdraw which).pending = s.pending := by
  unfold withdraw
  repeat' first | simp | split

@[simp] theorem withdrawProfile_frame (product : Nat) (s : State) :
    (s.withdrawProfile product).trt = s.trt ∧ (s.withdrawProfile product).obk = s.obk ∧
    (s.withdrawProfile product).znc = s.znc ∧ (s.withdrawProfile product).wsq = s.wsq ∧
    (s.withdrawProfile product).lbu = s.lbu ∧ (s.withdrawProfile product).lnu = s.lnu ∧
    (s.withdrawProfile product).sdu = s.sdu ∧ (s.withdrawProfile product).lsv = s.lsv ∧
    (s.withdrawProfile product).pins = s.pins ∧ (s.withdrawProfile product).ports = s.ports ∧
    (s.withdrawProfile product).freeCount = s.freeCount ∧ (s.withdrawProfile product).pending = s.pending := by
  unfold withdrawProfile
  repeat' first | simp | split

@[simp] theorem stopWaiting_frame (n : TrackNo) (s : State) :
    (s.stopWaiting n).trt = s.trt ∧ (s.stopWaiting n).obk = s.obk ∧ (s.stopWaiting n).znc = s.znc ∧
    (s.stopWaiting n).wsq = s.wsq ∧ (s.stopWaiting n).lbu = s.lbu ∧ (s.stopWaiting n).lnu = s.lnu ∧
    (s.stopWaiting n).sdu = s.sdu ∧ (s.stopWaiting n).lsv = s.lsv ∧ (s.stopWaiting n).pins = s.pins ∧
    (s.stopWaiting n).ports = s.ports ∧ (s.stopWaiting n).freeCount = s.freeCount ∧
    (s.stopWaiting n).pending = s.pending := by
  unfold stopWaiting
  repeat' first | simp | split

@[simp] theorem addReasonTo_frame (n : TrackNo) (r : Reason) (s : State) :
    (s.addReasonTo n r).obk = s.obk ∧ (s.addReasonTo n r).cku = s.cku ∧ (s.addReasonTo n r).znc = s.znc ∧
    (s.addReasonTo n r).wsq = s.wsq ∧ (s.addReasonTo n r).lbu = s.lbu ∧ (s.addReasonTo n r).lnu = s.lnu ∧
    (s.addReasonTo n r).sdu = s.sdu ∧ (s.addReasonTo n r).lku = s.lku ∧ (s.addReasonTo n r).lsv = s.lsv ∧
    (s.addReasonTo n r).pins = s.pins ∧ (s.addReasonTo n r).ports = s.ports ∧
    (s.addReasonTo n r).freeCount = s.freeCount ∧ (s.addReasonTo n r).pending = s.pending := by
  unfold addReasonTo
  repeat' first | simp | split

@[simp] theorem enter_frame (n : TrackNo) (st : PalletState) (event : PalletEvent) (s : State) :
    (s.enter n st event).obk = s.obk ∧ (s.enter n st event).cku = s.cku ∧ (s.enter n st event).znc = s.znc ∧
    (s.enter n st event).wsq = s.wsq ∧ (s.enter n st event).lbu = s.lbu ∧ (s.enter n st event).lnu = s.lnu ∧
    (s.enter n st event).sdu = s.sdu ∧ (s.enter n st event).lsv = s.lsv ∧ (s.enter n st event).pins = s.pins ∧
    (s.enter n st event).ports = s.ports ∧ (s.enter n st event).freeCount = s.freeCount ∧
    (s.enter n st event).pending = s.pending := by
  unfold enter
  repeat' first | simp | split

@[simp] theorem releaseAssignment_frame (n : TrackNo) (s : State) :
    (s.releaseAssignment n).cku = s.cku ∧ (s.releaseAssignment n).znc = s.znc ∧ (s.releaseAssignment n).wsq = s.wsq ∧
    (s.releaseAssignment n).lbu = s.lbu ∧ (s.releaseAssignment n).lnu = s.lnu ∧ (s.releaseAssignment n).sdu = s.sdu ∧
    (s.releaseAssignment n).lku = s.lku ∧ (s.releaseAssignment n).lsv = s.lsv ∧
    (s.releaseAssignment n).pins = s.pins ∧ (s.releaseAssignment n).ports = s.ports ∧
    (s.releaseAssignment n).freeCount = s.freeCount ∧ (s.releaseAssignment n).pending = s.pending := by
  unfold releaseAssignment
  repeat' first | simp | split

@[simp] theorem reject_frame (n : TrackNo) (reason : Option Reason) (s : State) :
    (s.reject n reason).cku = s.cku ∧ (s.reject n reason).znc = s.znc ∧ (s.reject n reason).wsq = s.wsq ∧
    (s.reject n reason).lbu = s.lbu ∧ (s.reject n reason).lnu = s.lnu ∧ (s.reject n reason).sdu = s.sdu ∧
    (s.reject n reason).lsv = s.lsv ∧ (s.reject n reason).pins = s.pins ∧ (s.reject n reason).ports = s.ports ∧
    (s.reject n reason).freeCount = s.freeCount ∧ (s.reject n reason).pending = s.pending := by
  unfold reject
  repeat' first | simp | split

@[simp] theorem retire_frame (n : TrackNo) (s : State) :
    (s.retire n).obk = s.obk ∧ (s.retire n).znc = s.znc ∧ (s.retire n).wsq = s.wsq ∧ (s.retire n).lbu = s.lbu ∧
    (s.retire n).lnu = s.lnu ∧ (s.retire n).sdu = s.sdu ∧ (s.retire n).lsv = s.lsv ∧ (s.retire n).pins = s.pins ∧
    (s.retire n).ports = s.ports ∧ (s.retire n).freeCount = s.freeCount ∧ (s.retire n).pending = s.pending := by
  unfold retire
  simp [apply_ite State.trt, apply_ite State.obk, apply_ite State.cku, apply_ite State.znc, apply_ite State.wsq,
    apply_ite State.lbu, apply_ite State.lnu, apply_ite State.sdu, apply_ite State.lku, apply_ite State.lsv,
    apply_ite State.pins, apply_ite State.ports, apply_ite State.freeCount, apply_ite State.pending]

/-! ### Store -/

@[simp] theorem storeNotice_frame (event : StoreEvent) (id : EntryId) (track : Option TrackNo) (s : State) :
    (s.storeNotice event id track).trt = s.trt ∧ (s.storeNotice event id track).obk = s.obk ∧
    (s.storeNotice event id track).cku = s.cku ∧ (s.storeNotice event id track).znc = s.znc ∧
    (s.storeNotice event id track).wsq = s.wsq ∧ (s.storeNotice event id track).lbu = s.lbu ∧
    (s.storeNotice event id track).lnu = s.lnu ∧ (s.storeNotice event id track).sdu = s.sdu ∧
    (s.storeNotice event id track).lsv = s.lsv ∧ (s.storeNotice event id track).pins = s.pins ∧
    (s.storeNotice event id track).ports = s.ports ∧ (s.storeNotice event id track).freeCount = s.freeCount ∧
    (s.storeNotice event id track).pending = s.pending := by
  unfold storeNotice
  repeat' first | simp | split

@[simp] theorem reservationFailed_frame (s : State) :
    (s.reservationFailed).trt = s.trt ∧ (s.reservationFailed).obk = s.obk ∧ (s.reservationFailed).cku = s.cku ∧
    (s.reservationFailed).znc = s.znc ∧ (s.reservationFailed).wsq = s.wsq ∧ (s.reservationFailed).lnu = s.lnu ∧
    (s.reservationFailed).sdu = s.sdu ∧ (s.reservationFailed).lsv = s.lsv ∧ (s.reservationFailed).pins = s.pins ∧
    (s.reservationFailed).ports = s.ports ∧ (s.reservationFailed).freeCount = s.freeCount ∧
    (s.reservationFailed).pending = s.pending := by
  unfold reservationFailed
  repeat' first | simp | split

@[simp] theorem damageAtRead_frame (id : EntryId) (s : State) :
    (s.damageAtRead id).trt = s.trt ∧ (s.damageAtRead id).obk = s.obk ∧ (s.damageAtRead id).cku = s.cku ∧
    (s.damageAtRead id).znc = s.znc ∧ (s.damageAtRead id).wsq = s.wsq ∧ (s.damageAtRead id).lnu = s.lnu ∧
    (s.damageAtRead id).lsv = s.lsv ∧ (s.damageAtRead id).pins = s.pins ∧ (s.damageAtRead id).ports = s.ports ∧
    (s.damageAtRead id).freeCount = s.freeCount ∧ (s.damageAtRead id).pending = s.pending := by
  unfold damageAtRead
  repeat' first | simp | split

@[simp] theorem readEntry_frame {α : Type} (id : EntryId) (e : Entry α) (s : State) :
    (s.readEntry id e).2.trt = s.trt ∧ (s.readEntry id e).2.obk = s.obk ∧ (s.readEntry id e).2.cku = s.cku ∧
    (s.readEntry id e).2.znc = s.znc ∧ (s.readEntry id e).2.wsq = s.wsq ∧ (s.readEntry id e).2.lnu = s.lnu ∧
    (s.readEntry id e).2.lsv = s.lsv ∧ (s.readEntry id e).2.pins = s.pins ∧ (s.readEntry id e).2.ports = s.ports ∧
    (s.readEntry id e).2.freeCount = s.freeCount ∧ (s.readEntry id e).2.pending = s.pending := by
  unfold readEntry
  repeat' first | simp | split

@[simp] theorem readProfileOf_frame (product : Nat) (s : State) :
    (s.readProfileOf product).2.trt = s.trt ∧ (s.readProfileOf product).2.obk = s.obk ∧
    (s.readProfileOf product).2.cku = s.cku ∧ (s.readProfileOf product).2.znc = s.znc ∧
    (s.readProfileOf product).2.wsq = s.wsq ∧ (s.readProfileOf product).2.lnu = s.lnu ∧
    (s.readProfileOf product).2.lsv = s.lsv ∧ (s.readProfileOf product).2.pins = s.pins ∧
    (s.readProfileOf product).2.ports = s.ports ∧ (s.readProfileOf product).2.freeCount = s.freeCount ∧
    (s.readProfileOf product).2.pending = s.pending := by
  unfold readProfileOf
  repeat' first | simp | split

theorem readProfileOf_of {product : Nat} {s t : State} {e : Entry Profile} (h : s.readProfileOf product = (e, t)) :
    t.trt = s.trt ∧ t.obk = s.obk ∧ t.cku = s.cku ∧ t.znc = s.znc ∧ t.wsq = s.wsq ∧ t.lnu = s.lnu ∧ t.lsv =
    s.lsv ∧ t.pins = s.pins ∧ t.ports = s.ports ∧ t.freeCount = s.freeCount ∧ t.pending = s.pending := by
  have h : t = (s.readProfileOf product).2 := by rw [h]
  subst h; simp

@[simp] theorem readRecipeEntry_frame (i : Fin 16) (s : State) :
    (s.readRecipeEntry i).2.trt = s.trt ∧ (s.readRecipeEntry i).2.obk = s.obk ∧ (s.readRecipeEntry i).2.cku = s.cku ∧
    (s.readRecipeEntry i).2.znc = s.znc ∧ (s.readRecipeEntry i).2.wsq = s.wsq ∧ (s.readRecipeEntry i).2.lnu = s.lnu ∧
    (s.readRecipeEntry i).2.lsv = s.lsv ∧ (s.readRecipeEntry i).2.pins = s.pins ∧
    (s.readRecipeEntry i).2.ports = s.ports ∧ (s.readRecipeEntry i).2.freeCount = s.freeCount ∧
    (s.readRecipeEntry i).2.pending = s.pending := by
  unfold readRecipeEntry
  repeat' first | simp | split

theorem readRecipeEntry_of {i : Fin 16} {s t : State} {e : Entry Recipe} (h : s.readRecipeEntry i = (e, t)) :
    t.trt = s.trt ∧ t.obk = s.obk ∧ t.cku = s.cku ∧ t.znc = s.znc ∧ t.wsq = s.wsq ∧ t.lnu = s.lnu ∧ t.lsv =
    s.lsv ∧ t.pins = s.pins ∧ t.ports = s.ports ∧ t.freeCount = s.freeCount ∧ t.pending = s.pending := by
  have h : t = (s.readRecipeEntry i).2 := by rw [h]
  subst h; simp

@[simp] theorem readSite_frame (s : State) :
    (s.readSite).2.trt = s.trt ∧ (s.readSite).2.obk = s.obk ∧ (s.readSite).2.cku = s.cku ∧
    (s.readSite).2.znc = s.znc ∧ (s.readSite).2.wsq = s.wsq ∧ (s.readSite).2.lnu = s.lnu ∧
    (s.readSite).2.lsv = s.lsv ∧ (s.readSite).2.pins = s.pins ∧ (s.readSite).2.ports = s.ports ∧
    (s.readSite).2.freeCount = s.freeCount ∧ (s.readSite).2.pending = s.pending := by
  unfold readSite
  repeat' first | simp | split

theorem readSite_of {s t : State} {e : Entry SiteData} (h : s.readSite = (e, t)) :
    t.trt = s.trt ∧ t.obk = s.obk ∧ t.cku = s.cku ∧ t.znc = s.znc ∧ t.wsq = s.wsq ∧ t.lnu = s.lnu ∧ t.lsv =
    s.lsv ∧ t.pins = s.pins ∧ t.ports = s.ports ∧ t.freeCount = s.freeCount ∧ t.pending = s.pending := by
  have h : t = (s.readSite).2 := by rw [h]
  subst h; simp

@[simp] theorem readTiming_frame (s : State) :
    (s.readTiming).2.trt = s.trt ∧ (s.readTiming).2.obk = s.obk ∧ (s.readTiming).2.cku = s.cku ∧
    (s.readTiming).2.znc = s.znc ∧ (s.readTiming).2.wsq = s.wsq ∧ (s.readTiming).2.lnu = s.lnu ∧
    (s.readTiming).2.lsv = s.lsv ∧ (s.readTiming).2.pins = s.pins ∧ (s.readTiming).2.ports = s.ports ∧
    (s.readTiming).2.freeCount = s.freeCount ∧ (s.readTiming).2.pending = s.pending := by
  unfold readTiming
  simp

@[simp] theorem startWrite_frame (s : State) :
    (s.startWrite).trt = s.trt ∧ (s.startWrite).obk = s.obk ∧ (s.startWrite).cku = s.cku ∧
    (s.startWrite).znc = s.znc ∧ (s.startWrite).wsq = s.wsq ∧ (s.startWrite).lbu = s.lbu ∧
    (s.startWrite).lnu = s.lnu ∧ (s.startWrite).lku = s.lku ∧ (s.startWrite).lsv = s.lsv ∧
    (s.startWrite).pins = s.pins ∧ (s.startWrite).ports = s.ports ∧ (s.startWrite).freeCount = s.freeCount ∧
    (s.startWrite).pending = s.pending := by
  unfold startWrite
  repeat' first | simp | split

@[simp] theorem placeJob_frame (kind : Byte) (write : StoreWrite) (s : State) :
    (s.placeJob kind write).trt = s.trt ∧ (s.placeJob kind write).obk = s.obk ∧ (s.placeJob kind write).cku = s.cku ∧
    (s.placeJob kind write).znc = s.znc ∧ (s.placeJob kind write).wsq = s.wsq ∧ (s.placeJob kind write).lbu = s.lbu ∧
    (s.placeJob kind write).lnu = s.lnu ∧ (s.placeJob kind write).lsv = s.lsv ∧
    (s.placeJob kind write).pins = s.pins ∧ (s.placeJob kind write).ports = s.ports ∧
    (s.placeJob kind write).freeCount = s.freeCount ∧ (s.placeJob kind write).pending = s.pending := by
  unfold placeJob
  repeat' first | simp | split

@[simp] theorem askReservation_frame (s : State) :
    (s.askReservation).trt = s.trt ∧ (s.askReservation).obk = s.obk ∧ (s.askReservation).cku = s.cku ∧
    (s.askReservation).znc = s.znc ∧ (s.askReservation).wsq = s.wsq ∧ (s.askReservation).lnu = s.lnu ∧
    (s.askReservation).lku = s.lku ∧ (s.askReservation).lsv = s.lsv ∧ (s.askReservation).pins = s.pins ∧
    (s.askReservation).ports = s.ports ∧ (s.askReservation).freeCount = s.freeCount ∧
    (s.askReservation).pending = s.pending := by
  unfold askReservation
  repeat' first | simp | split

@[simp] theorem partWrittenCopy_frame (mark : Nat) (s : State) :
    (s.partWrittenCopy mark).trt = s.trt ∧ (s.partWrittenCopy mark).obk = s.obk ∧
    (s.partWrittenCopy mark).cku = s.cku ∧ (s.partWrittenCopy mark).znc = s.znc ∧
    (s.partWrittenCopy mark).wsq = s.wsq ∧ (s.partWrittenCopy mark).lbu = s.lbu ∧
    (s.partWrittenCopy mark).lnu = s.lnu ∧ (s.partWrittenCopy mark).lku = s.lku ∧
    (s.partWrittenCopy mark).lsv = s.lsv ∧ (s.partWrittenCopy mark).pins = s.pins ∧
    (s.partWrittenCopy mark).ports = s.ports ∧ (s.partWrittenCopy mark).pending = s.pending := by
  unfold partWrittenCopy
  repeat' first | simp | split

@[simp] theorem cutOffWrite_frame (s : State) :
    (s.cutOffWrite).trt = s.trt ∧ (s.cutOffWrite).obk = s.obk ∧ (s.cutOffWrite).cku = s.cku ∧
    (s.cutOffWrite).znc = s.znc ∧ (s.cutOffWrite).wsq = s.wsq ∧ (s.cutOffWrite).lbu = s.lbu ∧
    (s.cutOffWrite).lnu = s.lnu ∧ (s.cutOffWrite).lku = s.lku ∧ (s.cutOffWrite).lsv = s.lsv ∧
    (s.cutOffWrite).pins = s.pins ∧ (s.cutOffWrite).ports = s.ports ∧ (s.cutOffWrite).pending = s.pending := by
  unfold cutOffWrite
  repeat' first | simp | split

/-! ### Orders -/

theorem allocate_of {n : TrackNo} {s t : State} (h : s.allocate n = some t) :
    t.cku = s.cku ∧ t.znc = s.znc ∧ t.wsq = s.wsq ∧ t.lbu = s.lbu ∧ t.lnu = s.lnu ∧ t.sdu = s.sdu ∧ t.lku =
    s.lku ∧ t.lsv = s.lsv ∧ t.pins = s.pins ∧ t.ports = s.ports ∧ t.freeCount = s.freeCount ∧ t.pending =
    s.pending := by
  unfold allocate at h
  repeat' split at h
  all_goals first | contradiction | (simp only [Option.some.injEq] at h; rw [← h]; simp [modOrder])

@[simp] theorem orphan_frame (number : Nat) (s : State) :
    (s.orphan number).cku = s.cku ∧ (s.orphan number).znc = s.znc ∧ (s.orphan number).wsq = s.wsq ∧
    (s.orphan number).lbu = s.lbu ∧ (s.orphan number).lnu = s.lnu ∧ (s.orphan number).sdu = s.sdu ∧
    (s.orphan number).lku = s.lku ∧ (s.orphan number).lsv = s.lsv ∧ (s.orphan number).pins = s.pins ∧
    (s.orphan number).ports = s.ports ∧ (s.orphan number).freeCount = s.freeCount ∧
    (s.orphan number).pending = s.pending := by
  unfold orphan
  repeat' first | simp | split

@[simp] theorem orderNotice_frame (event : OrderEvent) (number orphaned : Nat) (s : State) :
    (s.orderNotice event number orphaned).trt = s.trt ∧ (s.orderNotice event number orphaned).obk = s.obk ∧
    (s.orderNotice event number orphaned).cku = s.cku ∧ (s.orderNotice event number orphaned).znc = s.znc ∧
    (s.orderNotice event number orphaned).wsq = s.wsq ∧ (s.orderNotice event number orphaned).lbu = s.lbu ∧
    (s.orderNotice event number orphaned).lnu = s.lnu ∧ (s.orderNotice event number orphaned).sdu = s.sdu ∧
    (s.orderNotice event number orphaned).lsv = s.lsv ∧ (s.orderNotice event number orphaned).pins = s.pins ∧
    (s.orderNotice event number orphaned).ports = s.ports ∧
    (s.orderNotice event number orphaned).freeCount = s.freeCount ∧
    (s.orderNotice event number orphaned).pending = s.pending := by
  unfold orderNotice
  repeat' first | simp | split

@[simp] theorem endLane_frame (n : Lane) (cause : EndCause) (s : State) :
    (s.endLane n cause).trt = s.trt ∧ (s.endLane n cause).obk = s.obk ∧ (s.endLane n cause).cku = s.cku ∧
    (s.endLane n cause).znc = s.znc ∧ (s.endLane n cause).wsq = s.wsq ∧ (s.endLane n cause).lbu = s.lbu ∧
    (s.endLane n cause).sdu = s.sdu ∧ (s.endLane n cause).lsv = s.lsv ∧ (s.endLane n cause).pins = s.pins ∧
    (s.endLane n cause).ports = s.ports ∧ (s.endLane n cause).freeCount = s.freeCount ∧
    (s.endLane n cause).pending = s.pending := by
  unfold endLane
  repeat' first | simp | split

@[simp] theorem cancelInBook_frame (number : Nat) (s : State) :
    (s.cancelInBook number).cku = s.cku ∧ (s.cancelInBook number).znc = s.znc ∧ (s.cancelInBook number).wsq = s.wsq ∧
    (s.cancelInBook number).lbu = s.lbu ∧ (s.cancelInBook number).sdu = s.sdu ∧ (s.cancelInBook number).lsv = s.lsv ∧
    (s.cancelInBook number).pins = s.pins ∧ (s.cancelInBook number).ports = s.ports ∧
    (s.cancelInBook number).freeCount = s.freeCount ∧ (s.cancelInBook number).pending = s.pending := by
  unfold cancelInBook
  repeat' first | simp | split

@[simp] theorem cutOffInBook_frame (number : Nat) (s : State) :
    (s.cutOffInBook number).cku = s.cku ∧ (s.cutOffInBook number).znc = s.znc ∧ (s.cutOffInBook number).wsq = s.wsq ∧
    (s.cutOffInBook number).lbu = s.lbu ∧ (s.cutOffInBook number).lnu = s.lnu ∧ (s.cutOffInBook number).sdu = s.sdu ∧
    (s.cutOffInBook number).lsv = s.lsv ∧ (s.cutOffInBook number).pins = s.pins ∧
    (s.cutOffInBook number).ports = s.ports ∧ (s.cutOffInBook number).freeCount = s.freeCount ∧
    (s.cutOffInBook number).pending = s.pending := by
  unfold cutOffInBook
  repeat' first | simp | split

@[simp] theorem testComplete_frame (number : Nat) (s : State) :
    (s.testComplete number).trt = s.trt ∧ (s.testComplete number).cku = s.cku ∧ (s.testComplete number).znc = s.znc ∧
    (s.testComplete number).wsq = s.wsq ∧ (s.testComplete number).lbu = s.lbu ∧ (s.testComplete number).sdu = s.sdu ∧
    (s.testComplete number).lsv = s.lsv ∧ (s.testComplete number).pins = s.pins ∧
    (s.testComplete number).ports = s.ports ∧ (s.testComplete number).freeCount = s.freeCount ∧
    (s.testComplete number).pending = s.pending := by
  unfold testComplete
  repeat' first | simp | split

@[simp] theorem account_frame (n : TrackNo) (s : State) :
    (s.account n).znc = s.znc ∧ (s.account n).wsq = s.wsq ∧ (s.account n).lbu = s.lbu ∧ (s.account n).sdu = s.sdu ∧
    (s.account n).lsv = s.lsv ∧ (s.account n).pins = s.pins ∧ (s.account n).ports = s.ports ∧
    (s.account n).freeCount = s.freeCount ∧ (s.account n).pending = s.pending := by
  unfold account
  repeat' first | simp | split

/-! ### Check -/

@[simp] theorem armCaptures_frame (s : State) :
    (s.armCaptures).trt = s.trt ∧ (s.armCaptures).obk = s.obk ∧ (s.armCaptures).znc = s.znc ∧
    (s.armCaptures).wsq = s.wsq ∧ (s.armCaptures).lbu = s.lbu ∧ (s.armCaptures).lnu = s.lnu ∧
    (s.armCaptures).sdu = s.sdu ∧ (s.armCaptures).lku = s.lku ∧ (s.armCaptures).lsv = s.lsv ∧
    (s.armCaptures).pins = s.pins ∧ (s.armCaptures).ports = s.ports ∧ (s.armCaptures).freeCount = s.freeCount ∧
    (s.armCaptures).pending = s.pending := by
  unfold armCaptures
  repeat' first | simp | split

@[simp] theorem arm_frame (n : TrackNo) (s : State) :
    (s.arm n).obk = s.obk ∧ (s.arm n).znc = s.znc ∧ (s.arm n).wsq = s.wsq ∧ (s.arm n).lbu = s.lbu ∧
    (s.arm n).lnu = s.lnu ∧ (s.arm n).sdu = s.sdu ∧ (s.arm n).lku = s.lku ∧ (s.arm n).lsv = s.lsv ∧
    (s.arm n).pins = s.pins ∧ (s.arm n).ports = s.ports ∧ (s.arm n).freeCount = s.freeCount ∧
    (s.arm n).pending = s.pending := by
  unfold arm
  repeat' first | simp | split

@[simp] theorem rearm_frame (s : State) :
    (s.rearm).trt = s.trt ∧ (s.rearm).obk = s.obk ∧ (s.rearm).znc = s.znc ∧ (s.rearm).wsq = s.wsq ∧
    (s.rearm).lbu = s.lbu ∧ (s.rearm).lnu = s.lnu ∧ (s.rearm).sdu = s.sdu ∧ (s.rearm).lku = s.lku ∧
    (s.rearm).lsv = s.lsv ∧ (s.rearm).pins = s.pins ∧ (s.rearm).ports = s.ports ∧ (s.rearm).freeCount = s.freeCount ∧
    (s.rearm).pending = s.pending := by
  unfold rearm
  repeat' first | simp | split

@[simp] theorem abandon_frame (s : State) :
    (s.abandon).obk = s.obk ∧ (s.abandon).znc = s.znc ∧ (s.abandon).wsq = s.wsq ∧ (s.abandon).lbu = s.lbu ∧
    (s.abandon).lnu = s.lnu ∧ (s.abandon).sdu = s.sdu ∧ (s.abandon).lku = s.lku ∧ (s.abandon).lsv = s.lsv ∧
    (s.abandon).pins = s.pins ∧ (s.abandon).ports = s.ports ∧ (s.abandon).freeCount = s.freeCount ∧
    (s.abandon).pending = s.pending := by
  unfold abandon
  repeat' first | simp | split

@[simp] theorem copyPlan_frame (n : TrackNo) (recipe : Option Nat) (s : State) :
    (s.copyPlan n recipe).obk = s.obk ∧ (s.copyPlan n recipe).cku = s.cku ∧ (s.copyPlan n recipe).znc = s.znc ∧
    (s.copyPlan n recipe).wsq = s.wsq ∧ (s.copyPlan n recipe).lnu = s.lnu ∧ (s.copyPlan n recipe).lsv = s.lsv ∧
    (s.copyPlan n recipe).pins = s.pins ∧ (s.copyPlan n recipe).ports = s.ports ∧
    (s.copyPlan n recipe).freeCount = s.freeCount ∧ (s.copyPlan n recipe).pending = s.pending := by
  unfold copyPlan
  repeat' first | simp | split
  all_goals
    first
    | (have hof := readRecipeEntry_of (by assumption); first | (simp [hof]; done) | (repeat' first | simp [hof] | split))

@[simp] theorem acceptOrNoDemand_frame (n : TrackNo) (recipe : Option Nat) (s : State) :
    (s.acceptOrNoDemand n recipe).cku = s.cku ∧ (s.acceptOrNoDemand n recipe).znc = s.znc ∧
    (s.acceptOrNoDemand n recipe).wsq = s.wsq ∧ (s.acceptOrNoDemand n recipe).lnu = s.lnu ∧
    (s.acceptOrNoDemand n recipe).lsv = s.lsv ∧ (s.acceptOrNoDemand n recipe).pins = s.pins ∧
    (s.acceptOrNoDemand n recipe).ports = s.ports ∧ (s.acceptOrNoDemand n recipe).freeCount = s.freeCount ∧
    (s.acceptOrNoDemand n recipe).pending = s.pending := by
  unfold acceptOrNoDemand
  repeat' first | simp | split
  all_goals
    first
    | (have hof := allocate_of (by assumption); first | (simp [hof]; done) | (repeat' first | simp [hof] | split))

@[simp] theorem addReasons_frame (n : TrackNo) (rs : List Reason) (s : State) :
    (s.addReasons n rs).obk = s.obk ∧ (s.addReasons n rs).cku = s.cku ∧ (s.addReasons n rs).znc = s.znc ∧
    (s.addReasons n rs).wsq = s.wsq ∧ (s.addReasons n rs).lbu = s.lbu ∧ (s.addReasons n rs).lnu = s.lnu ∧
    (s.addReasons n rs).sdu = s.sdu ∧ (s.addReasons n rs).lku = s.lku ∧ (s.addReasons n rs).lsv = s.lsv ∧
    (s.addReasons n rs).pins = s.pins ∧ (s.addReasons n rs).ports = s.ports ∧
    (s.addReasons n rs).freeCount = s.freeCount ∧ (s.addReasons n rs).pending = s.pending := by
  unfold addReasons
  repeat' first | simp | split

@[simp] theorem verdictProfile_frame (t : Tag) (s : State) :
    (s.verdictProfile t).2.trt = s.trt ∧ (s.verdictProfile t).2.obk = s.obk ∧ (s.verdictProfile t).2.znc = s.znc ∧
    (s.verdictProfile t).2.wsq = s.wsq ∧ (s.verdictProfile t).2.lnu = s.lnu ∧ (s.verdictProfile t).2.lsv = s.lsv ∧
    (s.verdictProfile t).2.pins = s.pins ∧ (s.verdictProfile t).2.ports = s.ports ∧
    (s.verdictProfile t).2.freeCount = s.freeCount ∧ (s.verdictProfile t).2.pending = s.pending := by
  unfold verdictProfile
  repeat' first | simp | split
  all_goals
    first
    | (have hof := readProfileOf_of (by assumption); first | (simp [hof]; done) | (repeat' first | simp [hof] | split))

theorem verdictProfile_of {tag : Tag} {s t : State} {e : Option Profile} (h : s.verdictProfile tag = (e, t)) :
    t.trt = s.trt ∧ t.obk = s.obk ∧ t.znc = s.znc ∧ t.wsq = s.wsq ∧ t.lnu = s.lnu ∧ t.lsv = s.lsv ∧ t.pins =
    s.pins ∧ t.ports = s.ports ∧ t.freeCount = s.freeCount ∧ t.pending = s.pending := by
  have h : t = (s.verdictProfile tag).2 := by rw [h]
  subst h; simp

@[simp] theorem verdict_frame (s : State) :
    (s.verdict).znc = s.znc ∧ (s.verdict).wsq = s.wsq ∧ (s.verdict).lnu = s.lnu ∧ (s.verdict).lsv = s.lsv ∧
    (s.verdict).pins = s.pins ∧ (s.verdict).ports = s.ports ∧ (s.verdict).freeCount = s.freeCount ∧
    (s.verdict).pending = s.pending := by
  unfold verdict
  repeat' first | simp | split

@[simp] theorem tryVerdict_frame (s : State) :
    (s.tryVerdict).znc = s.znc ∧ (s.tryVerdict).wsq = s.wsq ∧ (s.tryVerdict).lnu = s.lnu ∧
    (s.tryVerdict).lsv = s.lsv ∧ (s.tryVerdict).pins = s.pins ∧ (s.tryVerdict).ports = s.ports ∧
    (s.tryVerdict).freeCount = s.freeCount ∧ (s.tryVerdict).pending = s.pending := by
  unfold tryVerdict
  repeat' first | simp | split

@[simp] theorem checkReason_frame (r : Reason) (s : State) :
    (s.checkReason r).obk = s.obk ∧ (s.checkReason r).cku = s.cku ∧ (s.checkReason r).znc = s.znc ∧
    (s.checkReason r).wsq = s.wsq ∧ (s.checkReason r).lbu = s.lbu ∧ (s.checkReason r).lnu = s.lnu ∧
    (s.checkReason r).sdu = s.sdu ∧ (s.checkReason r).lku = s.lku ∧ (s.checkReason r).lsv = s.lsv ∧
    (s.checkReason r).pins = s.pins ∧ (s.checkReason r).ports = s.ports ∧ (s.checkReason r).freeCount = s.freeCount ∧
    (s.checkReason r).pending = s.pending := by
  unfold checkReason
  repeat' first | simp | split

@[simp] theorem takeWeight_frame (weight : Int) (stable : Bool) (s : State) :
    (s.takeWeight weight stable).znc = s.znc ∧ (s.takeWeight weight stable).wsq = s.wsq ∧
    (s.takeWeight weight stable).lnu = s.lnu ∧ (s.takeWeight weight stable).lsv = s.lsv ∧
    (s.takeWeight weight stable).pins = s.pins ∧ (s.takeWeight weight stable).ports = s.ports ∧
    (s.takeWeight weight stable).freeCount = s.freeCount ∧ (s.takeWeight weight stable).pending = s.pending := by
  unfold takeWeight
  repeat' first | simp | split

@[simp] theorem weightTimeout_frame (s : State) :
    (s.weightTimeout).znc = s.znc ∧ (s.weightTimeout).wsq = s.wsq ∧ (s.weightTimeout).lnu = s.lnu ∧
    (s.weightTimeout).lsv = s.lsv ∧ (s.weightTimeout).pins = s.pins ∧ (s.weightTimeout).ports = s.ports ∧
    (s.weightTimeout).freeCount = s.freeCount ∧ (s.weightTimeout).pending = s.pending := by
  unfold weightTimeout
  repeat' first | simp | split

@[simp] theorem closeFrame_frame (s : State) :
    (s.closeFrame).trt = s.trt ∧ (s.closeFrame).obk = s.obk ∧ (s.closeFrame).znc = s.znc ∧
    (s.closeFrame).wsq = s.wsq ∧ (s.closeFrame).lbu = s.lbu ∧ (s.closeFrame).lnu = s.lnu ∧
    (s.closeFrame).sdu = s.sdu ∧ (s.closeFrame).lku = s.lku ∧ (s.closeFrame).lsv = s.lsv ∧
    (s.closeFrame).pins = s.pins ∧ (s.closeFrame).ports = s.ports ∧ (s.closeFrame).freeCount = s.freeCount ∧
    (s.closeFrame).pending = s.pending := by
  unfold closeFrame
  repeat' first | simp | split

@[simp] theorem writeResult_frame (f : Profile) (s : State) :
    (s.writeResult f).obk = s.obk ∧ (s.writeResult f).cku = s.cku ∧ (s.writeResult f).znc = s.znc ∧
    (s.writeResult f).wsq = s.wsq ∧ (s.writeResult f).lbu = s.lbu ∧ (s.writeResult f).lnu = s.lnu ∧
    (s.writeResult f).sdu = s.sdu ∧ (s.writeResult f).lku = s.lku ∧ (s.writeResult f).lsv = s.lsv ∧
    (s.writeResult f).pins = s.pins ∧ (s.writeResult f).ports = s.ports ∧ (s.writeResult f).freeCount = s.freeCount ∧
    (s.writeResult f).pending = s.pending := by
  unfold writeResult
  repeat' first | simp | split

@[simp] theorem endFrame_frame (rowFault : Bool) (s : State) :
    (s.endFrame rowFault).znc = s.znc ∧ (s.endFrame rowFault).wsq = s.wsq ∧ (s.endFrame rowFault).lnu = s.lnu ∧
    (s.endFrame rowFault).lsv = s.lsv ∧ (s.endFrame rowFault).pins = s.pins ∧ (s.endFrame rowFault).ports = s.ports ∧
    (s.endFrame rowFault).freeCount = s.freeCount ∧ (s.endFrame rowFault).pending = s.pending := by
  unfold endFrame
  repeat' first | simp | split

@[simp] theorem openFrame_frame (s : State) :
    (s.openFrame).znc = s.znc ∧ (s.openFrame).wsq = s.wsq ∧ (s.openFrame).lnu = s.lnu ∧ (s.openFrame).lsv = s.lsv ∧
    (s.openFrame).pins = s.pins ∧ (s.openFrame).ports = s.ports ∧ (s.openFrame).freeCount = s.freeCount ∧
    (s.openFrame).pending = s.pending := by
  unfold openFrame
  repeat' first | simp | split
  all_goals
    first
    | (have hof := readProfileOf_of (by assumption); first | (simp [hof]; done) | (repeat' first | simp [hof] | split))

@[simp] theorem beginFrame_frame (s : State) :
    (s.beginFrame).znc = s.znc ∧ (s.beginFrame).wsq = s.wsq ∧ (s.beginFrame).lnu = s.lnu ∧
    (s.beginFrame).lsv = s.lsv ∧ (s.beginFrame).pins = s.pins ∧ (s.beginFrame).ports = s.ports ∧
    (s.beginFrame).freeCount = s.freeCount ∧ (s.beginFrame).pending = s.pending := by
  unfold beginFrame
  repeat' first | simp | split

@[simp] theorem takeRow_frame (row : Nat) (cells : List Word16) (s : State) :
    (s.takeRow row cells).znc = s.znc ∧ (s.takeRow row cells).wsq = s.wsq ∧ (s.takeRow row cells).lnu = s.lnu ∧
    (s.takeRow row cells).lsv = s.lsv ∧ (s.takeRow row cells).pins = s.pins ∧ (s.takeRow row cells).ports = s.ports ∧
    (s.takeRow row cells).freeCount = s.freeCount ∧ (s.takeRow row cells).pending = s.pending := by
  unfold takeRow
  repeat' first | simp | split

@[simp] theorem scanTimeout_frame (s : State) :
    (s.scanTimeout).znc = s.znc ∧ (s.scanTimeout).wsq = s.wsq ∧ (s.scanTimeout).lnu = s.lnu ∧
    (s.scanTimeout).lsv = s.lsv ∧ (s.scanTimeout).pins = s.pins ∧ (s.scanTimeout).ports = s.ports ∧
    (s.scanTimeout).freeCount = s.freeCount ∧ (s.scanTimeout).pending = s.pending := by
  unfold scanTimeout
  repeat' first | simp | split

@[simp] theorem hold_frame (n : TrackNo) (s : State) :
    (s.hold n).obk = s.obk ∧ (s.hold n).znc = s.znc ∧ (s.hold n).wsq = s.wsq ∧ (s.hold n).lbu = s.lbu ∧
    (s.hold n).lnu = s.lnu ∧ (s.hold n).sdu = s.sdu ∧ (s.hold n).lsv = s.lsv ∧ (s.hold n).pins = s.pins ∧
    (s.hold n).ports = s.ports ∧ (s.hold n).freeCount = s.freeCount ∧ (s.hold n).pending = s.pending := by
  unfold hold
  repeat' first | simp | split

@[simp] theorem decideAtDiv1_frame (n : TrackNo) (s : State) :
    (s.decideAtDiv1 n).znc = s.znc ∧ (s.decideAtDiv1 n).wsq = s.wsq ∧ (s.decideAtDiv1 n).lbu = s.lbu ∧
    (s.decideAtDiv1 n).lnu = s.lnu ∧ (s.decideAtDiv1 n).sdu = s.sdu ∧ (s.decideAtDiv1 n).lsv = s.lsv ∧
    (s.decideAtDiv1 n).pins = s.pins ∧ (s.decideAtDiv1 n).ports = s.ports ∧
    (s.decideAtDiv1 n).freeCount = s.freeCount ∧ (s.decideAtDiv1 n).pending = s.pending := by
  unfold decideAtDiv1
  repeat' first | simp | split

@[simp] theorem endHold_frame (n : TrackNo) (s : State) :
    (s.endHold n).trt = s.trt ∧ (s.endHold n).obk = s.obk ∧ (s.endHold n).znc = s.znc ∧ (s.endHold n).wsq = s.wsq ∧
    (s.endHold n).lbu = s.lbu ∧ (s.endHold n).lnu = s.lnu ∧ (s.endHold n).sdu = s.sdu ∧ (s.endHold n).lsv = s.lsv ∧
    (s.endHold n).pins = s.pins ∧ (s.endHold n).ports = s.ports ∧ (s.endHold n).freeCount = s.freeCount ∧
    (s.endHold n).pending = s.pending := by
  unfold endHold
  repeat' first | simp | split

@[simp] theorem overrideHold_frame (n : TrackNo) (s : State) :
    (s.overrideHold n).znc = s.znc ∧ (s.overrideHold n).wsq = s.wsq ∧ (s.overrideHold n).lnu = s.lnu ∧
    (s.overrideHold n).lsv = s.lsv ∧ (s.overrideHold n).pins = s.pins ∧ (s.overrideHold n).ports = s.ports ∧
    (s.overrideHold n).freeCount = s.freeCount ∧ (s.overrideHold n).pending = s.pending := by
  unfold overrideHold
  repeat' first | simp | split
  all_goals
    first
    | (have hof := allocate_of (by assumption); first | (simp [hof]; done) | (repeat' first | simp [hof] | split))

@[simp] theorem divertHold_frame (n : TrackNo) (s : State) :
    (s.divertHold n).znc = s.znc ∧ (s.divertHold n).wsq = s.wsq ∧ (s.divertHold n).lbu = s.lbu ∧
    (s.divertHold n).lnu = s.lnu ∧ (s.divertHold n).sdu = s.sdu ∧ (s.divertHold n).lsv = s.lsv ∧
    (s.divertHold n).pins = s.pins ∧ (s.divertHold n).ports = s.ports ∧ (s.divertHold n).freeCount = s.freeCount ∧
    (s.divertHold n).pending = s.pending := by
  unfold divertHold
  repeat' first | simp | split

@[simp] theorem holdTimeout_frame (s : State) :
    (s.holdTimeout).znc = s.znc ∧ (s.holdTimeout).wsq = s.wsq ∧ (s.holdTimeout).lbu = s.lbu ∧
    (s.holdTimeout).lnu = s.lnu ∧ (s.holdTimeout).sdu = s.sdu ∧ (s.holdTimeout).lsv = s.lsv ∧
    (s.holdTimeout).pins = s.pins ∧ (s.holdTimeout).ports = s.ports ∧ (s.holdTimeout).freeCount = s.freeCount ∧
    (s.holdTimeout).pending = s.pending := by
  unfold holdTimeout
  repeat' first | simp | split

@[simp] theorem wantProfile_frame (n : TrackNo) (s : State) :
    (s.wantProfile n).trt = s.trt ∧ (s.wantProfile n).obk = s.obk ∧ (s.wantProfile n).znc = s.znc ∧
    (s.wantProfile n).wsq = s.wsq ∧ (s.wantProfile n).lnu = s.lnu ∧ (s.wantProfile n).lsv = s.lsv ∧
    (s.wantProfile n).pins = s.pins ∧ (s.wantProfile n).ports = s.ports ∧ (s.wantProfile n).freeCount = s.freeCount ∧
    (s.wantProfile n).pending = s.pending := by
  unfold wantProfile
  repeat' first | simp | split
  all_goals
    first
    | (have hof := readProfileOf_of (by assumption); first | (simp [hof]; done) | (repeat' first | simp [hof] | split))

/-! ### Label -/

theorem reallocate_of {n : TrackNo} {s t : State} (h : s.reallocate n = some t) :
    t.cku = s.cku ∧ t.znc = s.znc ∧ t.wsq = s.wsq ∧ t.lbu = s.lbu ∧ t.lnu = s.lnu ∧ t.sdu = s.sdu ∧ t.lku =
    s.lku ∧ t.lsv = s.lsv ∧ t.pins = s.pins ∧ t.ports = s.ports ∧ t.freeCount = s.freeCount ∧ t.pending =
    s.pending := by
  obtain ⟨u, hu, rfl⟩ := Option.map_eq_some_iff.mp h
  have hu := allocate_of hu
  simp [hu]

@[simp] theorem lowWater_frame (s : State) :
    (s.lowWater).trt = s.trt ∧ (s.lowWater).obk = s.obk ∧ (s.lowWater).cku = s.cku ∧ (s.lowWater).znc = s.znc ∧
    (s.lowWater).wsq = s.wsq ∧ (s.lowWater).lnu = s.lnu ∧ (s.lowWater).lsv = s.lsv ∧ (s.lowWater).pins = s.pins ∧
    (s.lowWater).ports = s.ports ∧ (s.lowWater).freeCount = s.freeCount ∧ (s.lowWater).pending = s.pending := by
  unfold lowWater
  repeat' first | simp | split

@[simp] theorem issueTo_frame (n : TrackNo) (s : State) :
    (s.issueTo n).obk = s.obk ∧ (s.issueTo n).cku = s.cku ∧ (s.issueTo n).znc = s.znc ∧ (s.issueTo n).wsq = s.wsq ∧
    (s.issueTo n).lnu = s.lnu ∧ (s.issueTo n).lsv = s.lsv ∧ (s.issueTo n).pins = s.pins ∧
    (s.issueTo n).ports = s.ports ∧ (s.issueTo n).freeCount = s.freeCount ∧ (s.issueTo n).pending = s.pending := by
  unfold issueTo
  repeat' first | simp | split

@[simp] theorem waitForSerial_frame (n : TrackNo) (s : State) :
    (s.waitForSerial n).trt = s.trt ∧ (s.waitForSerial n).obk = s.obk ∧ (s.waitForSerial n).cku = s.cku ∧
    (s.waitForSerial n).znc = s.znc ∧ (s.waitForSerial n).wsq = s.wsq ∧ (s.waitForSerial n).lnu = s.lnu ∧
    (s.waitForSerial n).sdu = s.sdu ∧ (s.waitForSerial n).lsv = s.lsv ∧ (s.waitForSerial n).pins = s.pins ∧
    (s.waitForSerial n).ports = s.ports ∧ (s.waitForSerial n).freeCount = s.freeCount ∧
    (s.waitForSerial n).pending = s.pending := by
  unfold waitForSerial
  dsimp only
  split <;> simp

@[simp] theorem productName_frame (product : Nat) (s : State) :
    (s.productName product).2.trt = s.trt ∧ (s.productName product).2.obk = s.obk ∧
    (s.productName product).2.cku = s.cku ∧ (s.productName product).2.znc = s.znc ∧
    (s.productName product).2.wsq = s.wsq ∧ (s.productName product).2.lnu = s.lnu ∧
    (s.productName product).2.lsv = s.lsv ∧ (s.productName product).2.pins = s.pins ∧
    (s.productName product).2.ports = s.ports ∧ (s.productName product).2.freeCount = s.freeCount ∧
    (s.productName product).2.pending = s.pending := by
  unfold productName
  repeat' first | simp | split
  all_goals
    first
    | (have hof := readProfileOf_of (by assumption); first | (simp [hof]; done) | (repeat' first | simp [hof] | split))

theorem productName_of {product : Nat} {s t : State} {e : Text} (h : s.productName product = (e, t)) :
    t.trt = s.trt ∧ t.obk = s.obk ∧ t.cku = s.cku ∧ t.znc = s.znc ∧ t.wsq = s.wsq ∧ t.lnu = s.lnu ∧ t.lsv =
    s.lsv ∧ t.pins = s.pins ∧ t.ports = s.ports ∧ t.freeCount = s.freeCount ∧ t.pending = s.pending := by
  have h : t = (s.productName product).2 := by rw [h]
  subst h; simp

@[simp] theorem compose_frame (n : TrackNo) (s : State) :
    (s.compose n).2.trt = s.trt ∧ (s.compose n).2.obk = s.obk ∧ (s.compose n).2.cku = s.cku ∧
    (s.compose n).2.znc = s.znc ∧ (s.compose n).2.wsq = s.wsq ∧ (s.compose n).2.lnu = s.lnu ∧
    (s.compose n).2.lsv = s.lsv ∧ (s.compose n).2.pins = s.pins ∧ (s.compose n).2.ports = s.ports ∧
    (s.compose n).2.freeCount = s.freeCount ∧ (s.compose n).2.pending = s.pending := by
  unfold compose
  repeat' first | simp | split
  all_goals
    first
    | (have hof := readSite_of (by assumption); first | (simp [hof]; done) | (repeat' first | simp [hof] | split))

theorem compose_of {n : TrackNo} {s t : State} {e : Option LabelContent} (h : s.compose n = (e, t)) :
    t.trt = s.trt ∧ t.obk = s.obk ∧ t.cku = s.cku ∧ t.znc = s.znc ∧ t.wsq = s.wsq ∧ t.lnu = s.lnu ∧ t.lsv =
    s.lsv ∧ t.pins = s.pins ∧ t.ports = s.ports ∧ t.freeCount = s.freeCount ∧ t.pending = s.pending := by
  have h : t = (s.compose n).2 := by rw [h]
  subst h; simp

@[simp] theorem setStep_frame (f : Face) (step : FaceStep) (s : State) :
    (s.setStep f step).trt = s.trt ∧ (s.setStep f step).obk = s.obk ∧ (s.setStep f step).cku = s.cku ∧
    (s.setStep f step).znc = s.znc ∧ (s.setStep f step).wsq = s.wsq ∧ (s.setStep f step).lnu = s.lnu ∧
    (s.setStep f step).sdu = s.sdu ∧ (s.setStep f step).lku = s.lku ∧ (s.setStep f step).lsv = s.lsv ∧
    (s.setStep f step).pins = s.pins ∧ (s.setStep f step).ports = s.ports ∧
    (s.setStep f step).freeCount = s.freeCount ∧ (s.setStep f step).pending = s.pending := by
  unfold setStep
  repeat' first | simp | split

@[simp] theorem stopApply_frame (f : Face) (s : State) :
    (s.stopApply f).trt = s.trt ∧ (s.stopApply f).obk = s.obk ∧ (s.stopApply f).cku = s.cku ∧
    (s.stopApply f).znc = s.znc ∧ (s.stopApply f).wsq = s.wsq ∧ (s.stopApply f).lnu = s.lnu ∧
    (s.stopApply f).sdu = s.sdu ∧ (s.stopApply f).lku = s.lku ∧ (s.stopApply f).lsv = s.lsv ∧
    (s.stopApply f).pins = s.pins ∧ (s.stopApply f).ports = s.ports ∧ (s.stopApply f).freeCount = s.freeCount ∧
    (s.stopApply f).pending = s.pending := by
  unfold stopApply
  repeat' first | simp | split

@[simp] theorem stopRead_frame (s : State) :
    (s.stopRead).trt = s.trt ∧ (s.stopRead).obk = s.obk ∧ (s.stopRead).cku = s.cku ∧ (s.stopRead).znc = s.znc ∧
    (s.stopRead).wsq = s.wsq ∧ (s.stopRead).lnu = s.lnu ∧ (s.stopRead).sdu = s.sdu ∧ (s.stopRead).lku = s.lku ∧
    (s.stopRead).lsv = s.lsv ∧ (s.stopRead).pins = s.pins ∧ (s.stopRead).ports = s.ports ∧
    (s.stopRead).freeCount = s.freeCount ∧ (s.stopRead).pending = s.pending := by
  unfold stopRead
  repeat' first | simp | split

@[simp] theorem modFace_frame (f : Face) (g : FaceRecord → FaceRecord) (s : State) :
    (s.modFace f g).obk = s.obk ∧ (s.modFace f g).cku = s.cku ∧ (s.modFace f g).znc = s.znc ∧
    (s.modFace f g).wsq = s.wsq ∧ (s.modFace f g).lbu = s.lbu ∧ (s.modFace f g).lnu = s.lnu ∧
    (s.modFace f g).sdu = s.sdu ∧ (s.modFace f g).lku = s.lku ∧ (s.modFace f g).lsv = s.lsv ∧
    (s.modFace f g).pins = s.pins ∧ (s.modFace f g).ports = s.ports ∧ (s.modFace f g).freeCount = s.freeCount ∧
    (s.modFace f g).pending = s.pending := by
  unfold modFace
  repeat' first | simp | split

@[simp] theorem sendApply_frame (f : Face) (s : State) :
    (s.sendApply f).obk = s.obk ∧ (s.sendApply f).cku = s.cku ∧ (s.sendApply f).znc = s.znc ∧
    (s.sendApply f).wsq = s.wsq ∧ (s.sendApply f).lnu = s.lnu ∧ (s.sendApply f).sdu = s.sdu ∧
    (s.sendApply f).lku = s.lku ∧ (s.sendApply f).lsv = s.lsv ∧ (s.sendApply f).pins = s.pins ∧
    (s.sendApply f).freeCount = s.freeCount ∧ (s.sendApply f).pending = s.pending := by
  unfold sendApply
  repeat' first | simp | split

@[simp] theorem sendApplies_frame (s : State) :
    (s.sendApplies).obk = s.obk ∧ (s.sendApplies).cku = s.cku ∧ (s.sendApplies).znc = s.znc ∧
    (s.sendApplies).wsq = s.wsq ∧ (s.sendApplies).lnu = s.lnu ∧ (s.sendApplies).sdu = s.sdu ∧
    (s.sendApplies).lku = s.lku ∧ (s.sendApplies).lsv = s.lsv ∧ (s.sendApplies).pins = s.pins ∧
    (s.sendApplies).freeCount = s.freeCount ∧ (s.sendApplies).pending = s.pending := by
  unfold sendApplies
  repeat' first | simp | split

@[simp] theorem askRead_frame (f : Face) (s : State) :
    (s.askRead f).trt = s.trt ∧ (s.askRead f).obk = s.obk ∧ (s.askRead f).cku = s.cku ∧ (s.askRead f).znc = s.znc ∧
    (s.askRead f).wsq = s.wsq ∧ (s.askRead f).lnu = s.lnu ∧ (s.askRead f).sdu = s.sdu ∧ (s.askRead f).lku = s.lku ∧
    (s.askRead f).lsv = s.lsv ∧ (s.askRead f).pins = s.pins ∧ (s.askRead f).freeCount = s.freeCount ∧
    (s.askRead f).pending = s.pending := by
  unfold askRead
  repeat' first | simp | split

@[simp] theorem endCycle_frame (s : State) :
    (s.endCycle).trt = s.trt ∧ (s.endCycle).obk = s.obk ∧ (s.endCycle).cku = s.cku ∧ (s.endCycle).znc = s.znc ∧
    (s.endCycle).wsq = s.wsq ∧ (s.endCycle).lnu = s.lnu ∧ (s.endCycle).sdu = s.sdu ∧ (s.endCycle).lku = s.lku ∧
    (s.endCycle).lsv = s.lsv ∧ (s.endCycle).pins = s.pins ∧ (s.endCycle).ports = s.ports ∧
    (s.endCycle).freeCount = s.freeCount ∧ (s.endCycle).pending = s.pending := by
  unfold endCycle
  repeat' first | simp | split

@[simp] theorem rejectCycle_frame (reason : Reason) (s : State) :
    (s.rejectCycle reason).cku = s.cku ∧ (s.rejectCycle reason).znc = s.znc ∧ (s.rejectCycle reason).wsq = s.wsq ∧
    (s.rejectCycle reason).lnu = s.lnu ∧ (s.rejectCycle reason).sdu = s.sdu ∧ (s.rejectCycle reason).lsv = s.lsv ∧
    (s.rejectCycle reason).pins = s.pins ∧ (s.rejectCycle reason).ports = s.ports ∧
    (s.rejectCycle reason).freeCount = s.freeCount ∧ (s.rejectCycle reason).pending = s.pending := by
  unfold rejectCycle
  repeat' first | simp | split

@[simp] theorem passCycle_frame (s : State) :
    (s.passCycle).cku = s.cku ∧ (s.passCycle).znc = s.znc ∧ (s.passCycle).wsq = s.wsq ∧ (s.passCycle).lnu = s.lnu ∧
    (s.passCycle).sdu = s.sdu ∧ (s.passCycle).lsv = s.lsv ∧ (s.passCycle).pins = s.pins ∧
    (s.passCycle).ports = s.ports ∧ (s.passCycle).freeCount = s.freeCount ∧ (s.passCycle).pending = s.pending := by
  unfold passCycle
  repeat' first | simp | split

@[simp] theorem endRound_frame (s : State) :
    (s.endRound).cku = s.cku ∧ (s.endRound).znc = s.znc ∧ (s.endRound).wsq = s.wsq ∧ (s.endRound).lnu = s.lnu ∧
    (s.endRound).sdu = s.sdu ∧ (s.endRound).lsv = s.lsv ∧ (s.endRound).pins = s.pins ∧
    (s.endRound).freeCount = s.freeCount ∧ (s.endRound).pending = s.pending := by
  unfold endRound
  repeat' first | simp | split

@[simp] theorem advance_frame (s : State) :
    (s.advance).cku = s.cku ∧ (s.advance).znc = s.znc ∧ (s.advance).wsq = s.wsq ∧ (s.advance).lnu = s.lnu ∧
    (s.advance).sdu = s.sdu ∧ (s.advance).lsv = s.lsv ∧ (s.advance).pins = s.pins ∧
    (s.advance).freeCount = s.freeCount ∧ (s.advance).pending = s.pending := by
  unfold advance
  repeat' first | simp | split

@[simp] theorem beginCycle_frame (n : TrackNo) (s : State) :
    (s.beginCycle n).cku = s.cku ∧ (s.beginCycle n).znc = s.znc ∧ (s.beginCycle n).wsq = s.wsq ∧
    (s.beginCycle n).lnu = s.lnu ∧ (s.beginCycle n).lsv = s.lsv ∧ (s.beginCycle n).pins = s.pins ∧
    (s.beginCycle n).freeCount = s.freeCount ∧ (s.beginCycle n).pending = s.pending := by
  unfold beginCycle
  repeat' first | simp | split
  all_goals
    first
    | (have hof := compose_of (by assumption); first | (simp [hof]; done) | (repeat' first | simp [hof] | split))

@[simp] theorem startLabelWork_frame (n : TrackNo) (s : State) :
    (s.startLabelWork n).cku = s.cku ∧ (s.startLabelWork n).znc = s.znc ∧ (s.startLabelWork n).wsq = s.wsq ∧
    (s.startLabelWork n).lnu = s.lnu ∧ (s.startLabelWork n).lsv = s.lsv ∧ (s.startLabelWork n).pins = s.pins ∧
    (s.startLabelWork n).freeCount = s.freeCount ∧ (s.startLabelWork n).pending = s.pending := by
  unfold startLabelWork
  repeat' first | simp | split

@[simp] theorem arriveLabel_frame (n : TrackNo) (s : State) :
    (s.arriveLabel n).cku = s.cku ∧ (s.arriveLabel n).znc = s.znc ∧ (s.arriveLabel n).wsq = s.wsq ∧
    (s.arriveLabel n).lnu = s.lnu ∧ (s.arriveLabel n).lsv = s.lsv ∧ (s.arriveLabel n).pins = s.pins ∧
    (s.arriveLabel n).freeCount = s.freeCount ∧ (s.arriveLabel n).pending = s.pending := by
  unfold arriveLabel
  repeat' first | simp | split
  all_goals
    first
    | (have hof := reallocate_of (by assumption); first | (simp [hof]; done) | (repeat' first | simp [hof] | split))

@[simp] theorem applied_frame (f : Face) (s : State) :
    (s.applied f).cku = s.cku ∧ (s.applied f).znc = s.znc ∧ (s.applied f).wsq = s.wsq ∧ (s.applied f).lnu = s.lnu ∧
    (s.applied f).sdu = s.sdu ∧ (s.applied f).lsv = s.lsv ∧ (s.applied f).pins = s.pins ∧
    (s.applied f).freeCount = s.freeCount ∧ (s.applied f).pending = s.pending := by
  unfold applied
  repeat' first | simp | split

@[simp] theorem voidRead_frame (s : State) :
    (s.voidRead).trt = s.trt ∧ (s.voidRead).obk = s.obk ∧ (s.voidRead).cku = s.cku ∧ (s.voidRead).znc = s.znc ∧
    (s.voidRead).wsq = s.wsq ∧ (s.voidRead).lnu = s.lnu ∧ (s.voidRead).sdu = s.sdu ∧ (s.voidRead).lku = s.lku ∧
    (s.voidRead).lsv = s.lsv ∧ (s.voidRead).pins = s.pins ∧ (s.voidRead).ports = s.ports ∧
    (s.voidRead).freeCount = s.freeCount ∧ (s.voidRead).pending = s.pending := by
  unfold voidRead
  repeat' first | simp | split

@[simp] theorem headFailed_frame (f : Face) (cause : LabellerCause) (s : State) :
    (s.headFailed f cause).trt = s.trt ∧ (s.headFailed f cause).obk = s.obk ∧ (s.headFailed f cause).cku = s.cku ∧
    (s.headFailed f cause).znc = s.znc ∧ (s.headFailed f cause).wsq = s.wsq ∧ (s.headFailed f cause).lnu = s.lnu ∧
    (s.headFailed f cause).sdu = s.sdu ∧ (s.headFailed f cause).lsv = s.lsv ∧ (s.headFailed f cause).pins = s.pins ∧
    (s.headFailed f cause).ports = s.ports ∧ (s.headFailed f cause).freeCount = s.freeCount ∧
    (s.headFailed f cause).pending = s.pending := by
  unfold headFailed
  repeat' first | simp | split

@[simp] theorem applyTimeout_frame (f : Face) (s : State) :
    (s.applyTimeout f).trt = s.trt ∧ (s.applyTimeout f).obk = s.obk ∧ (s.applyTimeout f).cku = s.cku ∧
    (s.applyTimeout f).znc = s.znc ∧ (s.applyTimeout f).wsq = s.wsq ∧ (s.applyTimeout f).lnu = s.lnu ∧
    (s.applyTimeout f).sdu = s.sdu ∧ (s.applyTimeout f).lsv = s.lsv ∧ (s.applyTimeout f).pins = s.pins ∧
    (s.applyTimeout f).ports = s.ports ∧ (s.applyTimeout f).freeCount = s.freeCount ∧
    (s.applyTimeout f).pending = s.pending := by
  unfold applyTimeout
  repeat' first | simp | split

@[simp] theorem readResult_frame (f : Face) (result : FaceResult) (s : State) :
    (s.readResult f result).cku = s.cku ∧ (s.readResult f result).znc = s.znc ∧ (s.readResult f result).wsq = s.wsq ∧
    (s.readResult f result).lnu = s.lnu ∧ (s.readResult f result).sdu = s.sdu ∧ (s.readResult f result).lsv = s.lsv ∧
    (s.readResult f result).pins = s.pins ∧ (s.readResult f result).freeCount = s.freeCount ∧
    (s.readResult f result).pending = s.pending := by
  unfold readResult
  repeat' first | simp | split

@[simp] theorem readText_frame (f : Face) (text : Text) (s : State) :
    (s.readText f text).cku = s.cku ∧ (s.readText f text).znc = s.znc ∧ (s.readText f text).wsq = s.wsq ∧
    (s.readText f text).lnu = s.lnu ∧ (s.readText f text).sdu = s.sdu ∧ (s.readText f text).lsv = s.lsv ∧
    (s.readText f text).pins = s.pins ∧ (s.readText f text).freeCount = s.freeCount ∧
    (s.readText f text).pending = s.pending := by
  unfold readText
  repeat' first | simp | split

@[simp] theorem readTimeout_frame (s : State) :
    (s.readTimeout).cku = s.cku ∧ (s.readTimeout).znc = s.znc ∧ (s.readTimeout).wsq = s.wsq ∧
    (s.readTimeout).lnu = s.lnu ∧ (s.readTimeout).sdu = s.sdu ∧ (s.readTimeout).lsv = s.lsv ∧
    (s.readTimeout).pins = s.pins ∧ (s.readTimeout).freeCount = s.freeCount ∧
    (s.readTimeout).pending = s.pending := by
  unfold readTimeout
  repeat' first | simp | split

@[simp] theorem resumeCycle_frame (s : State) :
    (s.resumeCycle).cku = s.cku ∧ (s.resumeCycle).znc = s.znc ∧ (s.resumeCycle).wsq = s.wsq ∧
    (s.resumeCycle).lnu = s.lnu ∧ (s.resumeCycle).sdu = s.sdu ∧ (s.resumeCycle).lsv = s.lsv ∧
    (s.resumeCycle).pins = s.pins ∧ (s.resumeCycle).freeCount = s.freeCount ∧
    (s.resumeCycle).pending = s.pending := by
  unfold resumeCycle
  repeat' first | simp | split

@[simp] theorem restoreLabeller_frame (s : State) :
    (s.restoreLabeller).cku = s.cku ∧ (s.restoreLabeller).znc = s.znc ∧ (s.restoreLabeller).wsq = s.wsq ∧
    (s.restoreLabeller).lnu = s.lnu ∧ (s.restoreLabeller).sdu = s.sdu ∧ (s.restoreLabeller).lsv = s.lsv ∧
    (s.restoreLabeller).pins = s.pins ∧ (s.restoreLabeller).freeCount = s.freeCount ∧
    (s.restoreLabeller).pending = s.pending := by
  unfold restoreLabeller
  repeat' first | simp | split

@[simp] theorem suspendCycle_frame (s : State) :
    (s.suspendCycle).trt = s.trt ∧ (s.suspendCycle).obk = s.obk ∧ (s.suspendCycle).cku = s.cku ∧
    (s.suspendCycle).znc = s.znc ∧ (s.suspendCycle).wsq = s.wsq ∧ (s.suspendCycle).lnu = s.lnu ∧
    (s.suspendCycle).sdu = s.sdu ∧ (s.suspendCycle).lku = s.lku ∧ (s.suspendCycle).lsv = s.lsv ∧
    (s.suspendCycle).pins = s.pins ∧ (s.suspendCycle).ports = s.ports ∧ (s.suspendCycle).freeCount = s.freeCount ∧
    (s.suspendCycle).pending = s.pending := by
  unfold suspendCycle
  repeat' first | simp | split

@[simp] theorem unsuspend_frame (s : State) :
    (s.unsuspend).cku = s.cku ∧ (s.unsuspend).znc = s.znc ∧ (s.unsuspend).wsq = s.wsq ∧ (s.unsuspend).lnu = s.lnu ∧
    (s.unsuspend).sdu = s.sdu ∧ (s.unsuspend).lsv = s.lsv ∧ (s.unsuspend).pins = s.pins ∧
    (s.unsuspend).freeCount = s.freeCount ∧ (s.unsuspend).pending = s.pending := by
  unfold unsuspend
  repeat' first | simp | split

@[simp] theorem labelOrderEnded_frame (orphans : List TrackNo) (s : State) :
    (s.labelOrderEnded orphans).cku = s.cku ∧ (s.labelOrderEnded orphans).znc = s.znc ∧
    (s.labelOrderEnded orphans).wsq = s.wsq ∧ (s.labelOrderEnded orphans).lnu = s.lnu ∧
    (s.labelOrderEnded orphans).sdu = s.sdu ∧ (s.labelOrderEnded orphans).lsv = s.lsv ∧
    (s.labelOrderEnded orphans).pins = s.pins ∧ (s.labelOrderEnded orphans).ports = s.ports ∧
    (s.labelOrderEnded orphans).freeCount = s.freeCount ∧ (s.labelOrderEnded orphans).pending = s.pending := by
  unfold labelOrderEnded
  repeat' first | simp | split
  all_goals
    first
    | (have hof := reallocate_of (by assumption); first | (simp [hof]; done) | (repeat' first | simp [hof] | split))

@[simp] theorem serveSerial_frame (s : State) :
    (s.serveSerial).cku = s.cku ∧ (s.serveSerial).znc = s.znc ∧ (s.serveSerial).wsq = s.wsq ∧
    (s.serveSerial).lnu = s.lnu ∧ (s.serveSerial).lsv = s.lsv ∧ (s.serveSerial).pins = s.pins ∧
    (s.serveSerial).freeCount = s.freeCount ∧ (s.serveSerial).pending = s.pending := by
  unfold serveSerial
  repeat' first | simp | split

@[simp] theorem serveHeld_frame (s : State) :
    (s.serveHeld).cku = s.cku ∧ (s.serveHeld).znc = s.znc ∧ (s.serveHeld).wsq = s.wsq ∧ (s.serveHeld).lnu = s.lnu ∧
    (s.serveHeld).lsv = s.lsv ∧ (s.serveHeld).pins = s.pins ∧ (s.serveHeld).freeCount = s.freeCount ∧
    (s.serveHeld).pending = s.pending := by
  unfold serveHeld
  repeat' first | simp | split

@[simp] theorem reservationDone_frame (s : State) :
    (s.reservationDone).cku = s.cku ∧ (s.reservationDone).znc = s.znc ∧ (s.reservationDone).wsq = s.wsq ∧
    (s.reservationDone).lnu = s.lnu ∧ (s.reservationDone).lsv = s.lsv ∧ (s.reservationDone).pins = s.pins ∧
    (s.reservationDone).freeCount = s.freeCount ∧ (s.reservationDone).pending = s.pending := by
  unfold reservationDone
  repeat' first | simp | split

@[simp] theorem siteSet_frame (mark : Nat) (s : State) :
    (s.siteSet mark).cku = s.cku ∧ (s.siteSet mark).znc = s.znc ∧ (s.siteSet mark).wsq = s.wsq ∧
    (s.siteSet mark).lnu = s.lnu ∧ (s.siteSet mark).lsv = s.lsv ∧ (s.siteSet mark).pins = s.pins ∧
    (s.siteSet mark).freeCount = s.freeCount ∧ (s.siteSet mark).pending = s.pending := by
  unfold siteSet
  repeat' first | simp | split

@[simp] theorem setRange_frame (s : State) :
    (s.setRange).trt = s.trt ∧ (s.setRange).obk = s.obk ∧ (s.setRange).cku = s.cku ∧ (s.setRange).znc = s.znc ∧
    (s.setRange).wsq = s.wsq ∧ (s.setRange).lnu = s.lnu ∧ (s.setRange).lsv = s.lsv ∧ (s.setRange).pins = s.pins ∧
    (s.setRange).ports = s.ports ∧ (s.setRange).freeCount = s.freeCount ∧ (s.setRange).pending = s.pending := by
  unfold setRange
  repeat' first | simp | split

/-! ### Lanes -/

@[simp] theorem departGate_frame (n : Lane) (s : State) :
    (s.departGate n).trt = s.trt ∧ (s.departGate n).obk = s.obk ∧ (s.departGate n).cku = s.cku ∧
    (s.departGate n).wsq = s.wsq ∧ (s.departGate n).lbu = s.lbu ∧ (s.departGate n).lnu = s.lnu ∧
    (s.departGate n).sdu = s.sdu ∧ (s.departGate n).lku = s.lku ∧ (s.departGate n).lsv = s.lsv ∧
    (s.departGate n).pins = s.pins ∧ (s.departGate n).ports = s.ports ∧ (s.departGate n).freeCount = s.freeCount ∧
    (s.departGate n).pending = s.pending := by
  unfold departGate
  repeat' first | simp | split

@[simp] theorem testRelease_frame (n : Lane) (s : State) :
    (s.testRelease n).wsq = s.wsq ∧ (s.testRelease n).lbu = s.lbu ∧ (s.testRelease n).sdu = s.sdu ∧
    (s.testRelease n).lsv = s.lsv ∧ (s.testRelease n).pins = s.pins ∧ (s.testRelease n).ports = s.ports ∧
    (s.testRelease n).freeCount = s.freeCount ∧ (s.testRelease n).pending = s.pending := by
  unfold testRelease
  repeat' first | simp | split

@[simp] theorem testReleases_frame (s : State) :
    (s.testReleases).wsq = s.wsq ∧ (s.testReleases).lbu = s.lbu ∧ (s.testReleases).sdu = s.sdu ∧
    (s.testReleases).lsv = s.lsv ∧ (s.testReleases).pins = s.pins ∧ (s.testReleases).ports = s.ports ∧
    (s.testReleases).freeCount = s.freeCount ∧ (s.testReleases).pending = s.pending := by
  unfold testReleases
  repeat' first | simp | split

@[simp] theorem warnLane_frame (n : Lane) (s : State) :
    (s.warnLane n).trt = s.trt ∧ (s.warnLane n).obk = s.obk ∧ (s.warnLane n).cku = s.cku ∧
    (s.warnLane n).znc = s.znc ∧ (s.warnLane n).wsq = s.wsq ∧ (s.warnLane n).lbu = s.lbu ∧
    (s.warnLane n).sdu = s.sdu ∧ (s.warnLane n).lsv = s.lsv ∧ (s.warnLane n).pins = s.pins ∧
    (s.warnLane n).ports = s.ports ∧ (s.warnLane n).freeCount = s.freeCount ∧
    (s.warnLane n).pending = s.pending := by
  unfold warnLane
  repeat' first | simp | split

@[simp] theorem bindLane_frame (n : Lane) (order minutes : Nat) (s : State) :
    (s.bindLane n order minutes).trt = s.trt ∧ (s.bindLane n order minutes).cku = s.cku ∧
    (s.bindLane n order minutes).znc = s.znc ∧ (s.bindLane n order minutes).wsq = s.wsq ∧
    (s.bindLane n order minutes).lbu = s.lbu ∧ (s.bindLane n order minutes).sdu = s.sdu ∧
    (s.bindLane n order minutes).lsv = s.lsv ∧ (s.bindLane n order minutes).pins = s.pins ∧
    (s.bindLane n order minutes).ports = s.ports ∧ (s.bindLane n order minutes).freeCount = s.freeCount ∧
    (s.bindLane n order minutes).pending = s.pending := by
  unfold bindLane
  repeat' first | simp | split

@[simp] theorem unbindLane_frame (n : Lane) (s : State) :
    (s.unbindLane n).trt = s.trt ∧ (s.unbindLane n).cku = s.cku ∧ (s.unbindLane n).znc = s.znc ∧
    (s.unbindLane n).wsq = s.wsq ∧ (s.unbindLane n).lbu = s.lbu ∧ (s.unbindLane n).sdu = s.sdu ∧
    (s.unbindLane n).lku = s.lku ∧ (s.unbindLane n).lsv = s.lsv ∧ (s.unbindLane n).pins = s.pins ∧
    (s.unbindLane n).ports = s.ports ∧ (s.unbindLane n).freeCount = s.freeCount ∧
    (s.unbindLane n).pending = s.pending := by
  unfold unbindLane
  repeat' first | simp | split

@[simp] theorem pauseLane_frame (n : Lane) (s : State) :
    (s.pauseLane n).trt = s.trt ∧ (s.pauseLane n).obk = s.obk ∧ (s.pauseLane n).cku = s.cku ∧
    (s.pauseLane n).znc = s.znc ∧ (s.pauseLane n).wsq = s.wsq ∧ (s.pauseLane n).lbu = s.lbu ∧
    (s.pauseLane n).sdu = s.sdu ∧ (s.pauseLane n).lku = s.lku ∧ (s.pauseLane n).lsv = s.lsv ∧
    (s.pauseLane n).pins = s.pins ∧ (s.pauseLane n).ports = s.ports ∧ (s.pauseLane n).freeCount = s.freeCount ∧
    (s.pauseLane n).pending = s.pending := by
  unfold pauseLane
  repeat' first | simp | split

@[simp] theorem resumeLane_frame (n : Lane) (s : State) :
    (s.resumeLane n).wsq = s.wsq ∧ (s.resumeLane n).lbu = s.lbu ∧ (s.resumeLane n).sdu = s.sdu ∧
    (s.resumeLane n).lsv = s.lsv ∧ (s.resumeLane n).pins = s.pins ∧ (s.resumeLane n).ports = s.ports ∧
    (s.resumeLane n).freeCount = s.freeCount ∧ (s.resumeLane n).pending = s.pending := by
  unfold resumeLane
  repeat' first | simp | split

@[simp] theorem extendLane_frame (n : Lane) (minutes : Nat) (s : State) :
    (s.extendLane n minutes).trt = s.trt ∧ (s.extendLane n minutes).obk = s.obk ∧
    (s.extendLane n minutes).cku = s.cku ∧ (s.extendLane n minutes).znc = s.znc ∧
    (s.extendLane n minutes).wsq = s.wsq ∧ (s.extendLane n minutes).lbu = s.lbu ∧
    (s.extendLane n minutes).sdu = s.sdu ∧ (s.extendLane n minutes).lku = s.lku ∧
    (s.extendLane n minutes).lsv = s.lsv ∧ (s.extendLane n minutes).pins = s.pins ∧
    (s.extendLane n minutes).ports = s.ports ∧ (s.extendLane n minutes).freeCount = s.freeCount ∧
    (s.extendLane n minutes).pending = s.pending := by
  unfold extendLane
  repeat' first | simp | split

@[simp] theorem truckChanged_frame (n : Lane) (active : Bool) (s : State) :
    (s.truckChanged n active).wsq = s.wsq ∧ (s.truckChanged n active).lbu = s.lbu ∧
    (s.truckChanged n active).sdu = s.sdu ∧ (s.truckChanged n active).lsv = s.lsv ∧
    (s.truckChanged n active).pins = s.pins ∧ (s.truckChanged n active).ports = s.ports ∧
    (s.truckChanged n active).freeCount = s.freeCount ∧ (s.truckChanged n active).pending = s.pending := by
  unfold truckChanged
  repeat' first | simp | split

/-! ### Wrap -/

@[simp] theorem send_frame (w : Wrapper) (kind : PassKind) (prestretch : Nat) (film : Option Nat) (s : State) :
    (s.send w kind prestretch film).trt = s.trt ∧ (s.send w kind prestretch film).obk = s.obk ∧
    (s.send w kind prestretch film).cku = s.cku ∧ (s.send w kind prestretch film).znc = s.znc ∧
    (s.send w kind prestretch film).lbu = s.lbu ∧ (s.send w kind prestretch film).lnu = s.lnu ∧
    (s.send w kind prestretch film).sdu = s.sdu ∧ (s.send w kind prestretch film).lku = s.lku ∧
    (s.send w kind prestretch film).lsv = s.lsv ∧ (s.send w kind prestretch film).pins = s.pins ∧
    (s.send w kind prestretch film).freeCount = s.freeCount ∧
    (s.send w kind prestretch film).pending = s.pending := by
  unfold send
  repeat' first | simp | split

@[simp] theorem modLoaded_frame (w : Wrapper) (f : Pallet → Pallet) (s : State) :
    (s.modLoaded w f).obk = s.obk ∧ (s.modLoaded w f).cku = s.cku ∧ (s.modLoaded w f).znc = s.znc ∧
    (s.modLoaded w f).wsq = s.wsq ∧ (s.modLoaded w f).lbu = s.lbu ∧ (s.modLoaded w f).lnu = s.lnu ∧
    (s.modLoaded w f).sdu = s.sdu ∧ (s.modLoaded w f).lku = s.lku ∧ (s.modLoaded w f).lsv = s.lsv ∧
    (s.modLoaded w f).pins = s.pins ∧ (s.modLoaded w f).ports = s.ports ∧ (s.modLoaded w f).freeCount = s.freeCount ∧
    (s.modLoaded w f).pending = s.pending := by
  unfold modLoaded
  repeat' first | simp | split

@[simp] theorem stationNotice_frame (event : StationEvent) (w : Wrapper) (track : Option TrackNo) (pass : Option PassKind) (fault : Option FaultCause) (film : Nat) (s : State) :
    (s.stationNotice event w track pass fault film).trt = s.trt ∧
    (s.stationNotice event w track pass fault film).obk = s.obk ∧
    (s.stationNotice event w track pass fault film).cku = s.cku ∧
    (s.stationNotice event w track pass fault film).znc = s.znc ∧
    (s.stationNotice event w track pass fault film).wsq = s.wsq ∧
    (s.stationNotice event w track pass fault film).lbu = s.lbu ∧
    (s.stationNotice event w track pass fault film).lnu = s.lnu ∧
    (s.stationNotice event w track pass fault film).sdu = s.sdu ∧
    (s.stationNotice event w track pass fault film).lsv = s.lsv ∧
    (s.stationNotice event w track pass fault film).pins = s.pins ∧
    (s.stationNotice event w track pass fault film).ports = s.ports ∧
    (s.stationNotice event w track pass fault film).freeCount = s.freeCount ∧
    (s.stationNotice event w track pass fault film).pending = s.pending := by
  unfold stationNotice
  repeat' first | simp | split

@[simp] theorem pauseWrap_frame (w : Wrapper) (cause : PauseCause) (s : State) :
    (s.pauseWrap w cause).trt = s.trt ∧ (s.pauseWrap w cause).obk = s.obk ∧ (s.pauseWrap w cause).cku = s.cku ∧
    (s.pauseWrap w cause).znc = s.znc ∧ (s.pauseWrap w cause).lbu = s.lbu ∧ (s.pauseWrap w cause).lnu = s.lnu ∧
    (s.pauseWrap w cause).sdu = s.sdu ∧ (s.pauseWrap w cause).lku = s.lku ∧ (s.pauseWrap w cause).lsv = s.lsv ∧
    (s.pauseWrap w cause).pins = s.pins ∧ (s.pauseWrap w cause).ports = s.ports ∧
    (s.pauseWrap w cause).freeCount = s.freeCount ∧ (s.pauseWrap w cause).pending = s.pending := by
  unfold pauseWrap
  repeat' first | simp | split

@[simp] theorem endAbort_frame (w : Wrapper) (s : State) :
    (s.endAbort w).obk = s.obk ∧ (s.endAbort w).cku = s.cku ∧ (s.endAbort w).znc = s.znc ∧
    (s.endAbort w).lbu = s.lbu ∧ (s.endAbort w).lnu = s.lnu ∧ (s.endAbort w).sdu = s.sdu ∧
    (s.endAbort w).lku = s.lku ∧ (s.endAbort w).lsv = s.lsv ∧ (s.endAbort w).pins = s.pins ∧
    (s.endAbort w).ports = s.ports ∧ (s.endAbort w).freeCount = s.freeCount ∧
    (s.endAbort w).pending = s.pending := by
  unfold endAbort
  repeat' first | simp | split

@[simp] theorem takeAbort_frame (w : Wrapper) (s : State) :
    (s.takeAbort w).obk = s.obk ∧ (s.takeAbort w).cku = s.cku ∧ (s.takeAbort w).znc = s.znc ∧
    (s.takeAbort w).lbu = s.lbu ∧ (s.takeAbort w).lnu = s.lnu ∧ (s.takeAbort w).sdu = s.sdu ∧
    (s.takeAbort w).lku = s.lku ∧ (s.takeAbort w).lsv = s.lsv ∧ (s.takeAbort w).pins = s.pins ∧
    (s.takeAbort w).freeCount = s.freeCount ∧ (s.takeAbort w).pending = s.pending := by
  unfold takeAbort
  repeat' first | simp | split

@[simp] theorem wrapStep_frame (w : Wrapper) (s : State) :
    (s.wrapStep w).obk = s.obk ∧ (s.wrapStep w).cku = s.cku ∧ (s.wrapStep w).znc = s.znc ∧
    (s.wrapStep w).lbu = s.lbu ∧ (s.wrapStep w).lnu = s.lnu ∧ (s.wrapStep w).sdu = s.sdu ∧
    (s.wrapStep w).lsv = s.lsv ∧ (s.wrapStep w).pins = s.pins ∧ (s.wrapStep w).freeCount = s.freeCount ∧
    (s.wrapStep w).pending = s.pending := by
  unfold wrapStep
  repeat' first | simp | split

@[simp] theorem beginWrap_frame (w : Wrapper) (n : TrackNo) (s : State) :
    (s.beginWrap w n).obk = s.obk ∧ (s.beginWrap w n).cku = s.cku ∧ (s.beginWrap w n).znc = s.znc ∧
    (s.beginWrap w n).lbu = s.lbu ∧ (s.beginWrap w n).lnu = s.lnu ∧ (s.beginWrap w n).sdu = s.sdu ∧
    (s.beginWrap w n).lsv = s.lsv ∧ (s.beginWrap w n).pins = s.pins ∧ (s.beginWrap w n).freeCount = s.freeCount ∧
    (s.beginWrap w n).pending = s.pending := by
  unfold beginWrap
  repeat' first | simp | split

@[simp] theorem resumeWrap_frame (w : Wrapper) (s : State) :
    (s.resumeWrap w).obk = s.obk ∧ (s.resumeWrap w).cku = s.cku ∧ (s.resumeWrap w).znc = s.znc ∧
    (s.resumeWrap w).lbu = s.lbu ∧ (s.resumeWrap w).lnu = s.lnu ∧ (s.resumeWrap w).sdu = s.sdu ∧
    (s.resumeWrap w).lsv = s.lsv ∧ (s.resumeWrap w).pins = s.pins ∧ (s.resumeWrap w).freeCount = s.freeCount ∧
    (s.resumeWrap w).pending = s.pending := by
  unfold resumeWrap
  repeat' first | simp | split

@[simp] theorem stopWrap_frame (w : Wrapper) (s : State) :
    (s.stopWrap w).trt = s.trt ∧ (s.stopWrap w).obk = s.obk ∧ (s.stopWrap w).cku = s.cku ∧
    (s.stopWrap w).znc = s.znc ∧ (s.stopWrap w).lbu = s.lbu ∧ (s.stopWrap w).lnu = s.lnu ∧
    (s.stopWrap w).sdu = s.sdu ∧ (s.stopWrap w).lku = s.lku ∧ (s.stopWrap w).lsv = s.lsv ∧
    (s.stopWrap w).pins = s.pins ∧ (s.stopWrap w).ports = s.ports ∧ (s.stopWrap w).freeCount = s.freeCount ∧
    (s.stopWrap w).pending = s.pending := by
  unfold stopWrap
  repeat' first | simp | split

@[simp] theorem faultWrap_frame (w : Wrapper) (cause : FaultCause) (s : State) :
    (s.faultWrap w cause).obk = s.obk ∧ (s.faultWrap w cause).cku = s.cku ∧ (s.faultWrap w cause).znc = s.znc ∧
    (s.faultWrap w cause).lbu = s.lbu ∧ (s.faultWrap w cause).lnu = s.lnu ∧ (s.faultWrap w cause).sdu = s.sdu ∧
    (s.faultWrap w cause).lsv = s.lsv ∧ (s.faultWrap w cause).pins = s.pins ∧ (s.faultWrap w cause).ports = s.ports ∧
    (s.faultWrap w cause).freeCount = s.freeCount ∧ (s.faultWrap w cause).pending = s.pending := by
  unfold faultWrap
  repeat' first | simp | split

@[simp] theorem stationAccepts_frame (w : Wrapper) (number : Byte) (s : State) :
    (s.stationAccepts w number).trt = s.trt ∧ (s.stationAccepts w number).obk = s.obk ∧
    (s.stationAccepts w number).cku = s.cku ∧ (s.stationAccepts w number).znc = s.znc ∧
    (s.stationAccepts w number).lbu = s.lbu ∧ (s.stationAccepts w number).lnu = s.lnu ∧
    (s.stationAccepts w number).sdu = s.sdu ∧ (s.stationAccepts w number).lku = s.lku ∧
    (s.stationAccepts w number).lsv = s.lsv ∧ (s.stationAccepts w number).pins = s.pins ∧
    (s.stationAccepts w number).ports = s.ports ∧ (s.stationAccepts w number).freeCount = s.freeCount ∧
    (s.stationAccepts w number).pending = s.pending := by
  unfold stationAccepts
  repeat' first | simp | split

@[simp] theorem countFilm_frame (w : Wrapper) (s : State) :
    (s.countFilm w).obk = s.obk ∧ (s.countFilm w).cku = s.cku ∧ (s.countFilm w).znc = s.znc ∧
    (s.countFilm w).lbu = s.lbu ∧ (s.countFilm w).lnu = s.lnu ∧ (s.countFilm w).sdu = s.sdu ∧
    (s.countFilm w).lsv = s.lsv ∧ (s.countFilm w).pins = s.pins ∧ (s.countFilm w).ports = s.ports ∧
    (s.countFilm w).freeCount = s.freeCount ∧ (s.countFilm w).pending = s.pending := by
  unfold countFilm
  repeat' first | simp | split

@[simp] theorem passDone_frame (w : Wrapper) (kind : PassKind) (s : State) :
    (s.passDone w kind).obk = s.obk ∧ (s.passDone w kind).cku = s.cku ∧ (s.passDone w kind).znc = s.znc ∧
    (s.passDone w kind).lbu = s.lbu ∧ (s.passDone w kind).lnu = s.lnu ∧ (s.passDone w kind).sdu = s.sdu ∧
    (s.passDone w kind).lsv = s.lsv ∧ (s.passDone w kind).pins = s.pins ∧
    (s.passDone w kind).freeCount = s.freeCount ∧ (s.passDone w kind).pending = s.pending := by
  unfold passDone
  repeat' first | simp | split

@[simp] theorem filmBreak_frame (w : Wrapper) (kind : PassKind) (s : State) :
    (s.filmBreak w kind).obk = s.obk ∧ (s.filmBreak w kind).cku = s.cku ∧ (s.filmBreak w kind).znc = s.znc ∧
    (s.filmBreak w kind).lbu = s.lbu ∧ (s.filmBreak w kind).lnu = s.lnu ∧ (s.filmBreak w kind).sdu = s.sdu ∧
    (s.filmBreak w kind).lsv = s.lsv ∧ (s.filmBreak w kind).pins = s.pins ∧
    (s.filmBreak w kind).freeCount = s.freeCount ∧ (s.filmBreak w kind).pending = s.pending := by
  unfold filmBreak
  repeat' first | simp | split

@[simp] theorem stationFaults_frame (w : Wrapper) (number : Byte) (s : State) :
    (s.stationFaults w number).obk = s.obk ∧ (s.stationFaults w number).cku = s.cku ∧
    (s.stationFaults w number).znc = s.znc ∧ (s.stationFaults w number).lbu = s.lbu ∧
    (s.stationFaults w number).lnu = s.lnu ∧ (s.stationFaults w number).sdu = s.sdu ∧
    (s.stationFaults w number).lsv = s.lsv ∧ (s.stationFaults w number).pins = s.pins ∧
    (s.stationFaults w number).ports = s.ports ∧ (s.stationFaults w number).freeCount = s.freeCount ∧
    (s.stationFaults w number).pending = s.pending := by
  unfold stationFaults
  repeat' first | simp | split

@[simp] theorem passTimeout_frame (w : Wrapper) (s : State) :
    (s.passTimeout w).obk = s.obk ∧ (s.passTimeout w).cku = s.cku ∧ (s.passTimeout w).znc = s.znc ∧
    (s.passTimeout w).lbu = s.lbu ∧ (s.passTimeout w).lnu = s.lnu ∧ (s.passTimeout w).sdu = s.sdu ∧
    (s.passTimeout w).lsv = s.lsv ∧ (s.passTimeout w).pins = s.pins ∧ (s.passTimeout w).ports = s.ports ∧
    (s.passTimeout w).freeCount = s.freeCount ∧ (s.passTimeout w).pending = s.pending := by
  unfold passTimeout
  repeat' first | simp | split

@[simp] theorem answerRestore_frame (w : Wrapper) (st : Status) (s : State) :
    (s.answerRestore w st).trt = s.trt ∧ (s.answerRestore w st).obk = s.obk ∧ (s.answerRestore w st).cku = s.cku ∧
    (s.answerRestore w st).znc = s.znc ∧ (s.answerRestore w st).lbu = s.lbu ∧ (s.answerRestore w st).lnu = s.lnu ∧
    (s.answerRestore w st).sdu = s.sdu ∧ (s.answerRestore w st).lsv = s.lsv ∧ (s.answerRestore w st).pins = s.pins ∧
    (s.answerRestore w st).ports = s.ports ∧ (s.answerRestore w st).freeCount = s.freeCount ∧
    (s.answerRestore w st).pending = s.pending := by
  unfold answerRestore
  repeat' first | simp | split

@[simp] theorem queryEnded_frame (w : Wrapper) (found : Found) (s : State) :
    (s.queryEnded w found).trt = s.trt ∧ (s.queryEnded w found).obk = s.obk ∧ (s.queryEnded w found).cku = s.cku ∧
    (s.queryEnded w found).znc = s.znc ∧ (s.queryEnded w found).lbu = s.lbu ∧ (s.queryEnded w found).lnu = s.lnu ∧
    (s.queryEnded w found).sdu = s.sdu ∧ (s.queryEnded w found).lsv = s.lsv ∧ (s.queryEnded w found).pins = s.pins ∧
    (s.queryEnded w found).ports = s.ports ∧ (s.queryEnded w found).freeCount = s.freeCount ∧
    (s.queryEnded w found).pending = s.pending := by
  unfold queryEnded
  repeat' first | simp | split

@[simp] theorem statusReported_frame (w : Wrapper) (number : Byte) (healthy loaded : Bool) (s : State) :
    (s.statusReported w number healthy loaded).trt = s.trt ∧ (s.statusReported w number healthy loaded).obk = s.obk ∧
    (s.statusReported w number healthy loaded).cku = s.cku ∧ (s.statusReported w number healthy loaded).znc = s.znc ∧
    (s.statusReported w number healthy loaded).lbu = s.lbu ∧ (s.statusReported w number healthy loaded).lnu = s.lnu ∧
    (s.statusReported w number healthy loaded).sdu = s.sdu ∧ (s.statusReported w number healthy loaded).lsv = s.lsv ∧
    (s.statusReported w number healthy loaded).pins = s.pins ∧
    (s.statusReported w number healthy loaded).ports = s.ports ∧
    (s.statusReported w number healthy loaded).freeCount = s.freeCount ∧
    (s.statusReported w number healthy loaded).pending = s.pending := by
  unfold statusReported
  repeat' first | simp | split

@[simp] theorem acceptanceTimeout_frame (w : Wrapper) (s : State) :
    (s.acceptanceTimeout w).obk = s.obk ∧ (s.acceptanceTimeout w).cku = s.cku ∧ (s.acceptanceTimeout w).znc = s.znc ∧
    (s.acceptanceTimeout w).lbu = s.lbu ∧ (s.acceptanceTimeout w).lnu = s.lnu ∧ (s.acceptanceTimeout w).sdu = s.sdu ∧
    (s.acceptanceTimeout w).lsv = s.lsv ∧ (s.acceptanceTimeout w).pins = s.pins ∧
    (s.acceptanceTimeout w).ports = s.ports ∧ (s.acceptanceTimeout w).freeCount = s.freeCount ∧
    (s.acceptanceTimeout w).pending = s.pending := by
  unfold acceptanceTimeout
  repeat' first | simp | split

@[simp] theorem loadingBegun_frame (w : Wrapper) (n : TrackNo) (s : State) :
    (s.loadingBegun w n).trt = s.trt ∧ (s.loadingBegun w n).obk = s.obk ∧ (s.loadingBegun w n).cku = s.cku ∧
    (s.loadingBegun w n).znc = s.znc ∧ (s.loadingBegun w n).lbu = s.lbu ∧ (s.loadingBegun w n).lnu = s.lnu ∧
    (s.loadingBegun w n).sdu = s.sdu ∧ (s.loadingBegun w n).lku = s.lku ∧ (s.loadingBegun w n).lsv = s.lsv ∧
    (s.loadingBegun w n).pins = s.pins ∧ (s.loadingBegun w n).ports = s.ports ∧
    (s.loadingBegun w n).freeCount = s.freeCount ∧ (s.loadingBegun w n).pending = s.pending := by
  unfold loadingBegun
  repeat' first | simp | split

@[simp] theorem loadingUndone_frame (w : Wrapper) (s : State) :
    (s.loadingUndone w).trt = s.trt ∧ (s.loadingUndone w).obk = s.obk ∧ (s.loadingUndone w).cku = s.cku ∧
    (s.loadingUndone w).znc = s.znc ∧ (s.loadingUndone w).lbu = s.lbu ∧ (s.loadingUndone w).lnu = s.lnu ∧
    (s.loadingUndone w).sdu = s.sdu ∧ (s.loadingUndone w).lku = s.lku ∧ (s.loadingUndone w).lsv = s.lsv ∧
    (s.loadingUndone w).pins = s.pins ∧ (s.loadingUndone w).ports = s.ports ∧
    (s.loadingUndone w).freeCount = s.freeCount ∧ (s.loadingUndone w).pending = s.pending := by
  unfold loadingUndone
  repeat' first | simp | split

@[simp] theorem dischargeBegun_frame (w : Wrapper) (s : State) :
    (s.dischargeBegun w).trt = s.trt ∧ (s.dischargeBegun w).obk = s.obk ∧ (s.dischargeBegun w).cku = s.cku ∧
    (s.dischargeBegun w).znc = s.znc ∧ (s.dischargeBegun w).lbu = s.lbu ∧ (s.dischargeBegun w).lnu = s.lnu ∧
    (s.dischargeBegun w).sdu = s.sdu ∧ (s.dischargeBegun w).lku = s.lku ∧ (s.dischargeBegun w).lsv = s.lsv ∧
    (s.dischargeBegun w).pins = s.pins ∧ (s.dischargeBegun w).ports = s.ports ∧
    (s.dischargeBegun w).freeCount = s.freeCount ∧ (s.dischargeBegun w).pending = s.pending := by
  unfold dischargeBegun
  repeat' first | simp | split

@[simp] theorem dischargeUndone_frame (w : Wrapper) (s : State) :
    (s.dischargeUndone w).trt = s.trt ∧ (s.dischargeUndone w).obk = s.obk ∧ (s.dischargeUndone w).cku = s.cku ∧
    (s.dischargeUndone w).znc = s.znc ∧ (s.dischargeUndone w).lbu = s.lbu ∧ (s.dischargeUndone w).lnu = s.lnu ∧
    (s.dischargeUndone w).sdu = s.sdu ∧ (s.dischargeUndone w).lku = s.lku ∧ (s.dischargeUndone w).lsv = s.lsv ∧
    (s.dischargeUndone w).pins = s.pins ∧ (s.dischargeUndone w).ports = s.ports ∧
    (s.dischargeUndone w).freeCount = s.freeCount ∧ (s.dischargeUndone w).pending = s.pending := by
  unfold dischargeUndone
  repeat' first | simp | split

@[simp] theorem dischargeEnded_frame (w : Wrapper) (s : State) :
    (s.dischargeEnded w).trt = s.trt ∧ (s.dischargeEnded w).obk = s.obk ∧ (s.dischargeEnded w).cku = s.cku ∧
    (s.dischargeEnded w).znc = s.znc ∧ (s.dischargeEnded w).lbu = s.lbu ∧ (s.dischargeEnded w).lnu = s.lnu ∧
    (s.dischargeEnded w).sdu = s.sdu ∧ (s.dischargeEnded w).lku = s.lku ∧ (s.dischargeEnded w).lsv = s.lsv ∧
    (s.dischargeEnded w).pins = s.pins ∧ (s.dischargeEnded w).ports = s.ports ∧
    (s.dischargeEnded w).freeCount = s.freeCount ∧ (s.dischargeEnded w).pending = s.pending := by
  unfold dischargeEnded
  repeat' first | simp | split

@[simp] theorem emptied_frame (w : Wrapper) (s : State) :
    (s.emptied w).trt = s.trt ∧ (s.emptied w).obk = s.obk ∧ (s.emptied w).cku = s.cku ∧ (s.emptied w).znc = s.znc ∧
    (s.emptied w).lbu = s.lbu ∧ (s.emptied w).lnu = s.lnu ∧ (s.emptied w).sdu = s.sdu ∧ (s.emptied w).lku = s.lku ∧
    (s.emptied w).lsv = s.lsv ∧ (s.emptied w).pins = s.pins ∧ (s.emptied w).ports = s.ports ∧
    (s.emptied w).freeCount = s.freeCount ∧ (s.emptied w).pending = s.pending := by
  unfold emptied
  repeat' first | simp | split

/-! ### Zones -/

@[simp] theorem zoneNotice_frame (event : ZoneEvent) (z : Zone) (partner : Option Zone) (n : Option TrackNo) (cause : Option ZoneCause) (s : State) :
    (s.zoneNotice event z partner n cause).trt = s.trt ∧ (s.zoneNotice event z partner n cause).obk = s.obk ∧
    (s.zoneNotice event z partner n cause).cku = s.cku ∧ (s.zoneNotice event z partner n cause).znc = s.znc ∧
    (s.zoneNotice event z partner n cause).wsq = s.wsq ∧ (s.zoneNotice event z partner n cause).lbu = s.lbu ∧
    (s.zoneNotice event z partner n cause).lnu = s.lnu ∧ (s.zoneNotice event z partner n cause).sdu = s.sdu ∧
    (s.zoneNotice event z partner n cause).lsv = s.lsv ∧ (s.zoneNotice event z partner n cause).pins = s.pins ∧
    (s.zoneNotice event z partner n cause).ports = s.ports ∧
    (s.zoneNotice event z partner n cause).freeCount = s.freeCount ∧
    (s.zoneNotice event z partner n cause).pending = s.pending := by
  unfold zoneNotice
  repeat' first | simp | split

@[simp] theorem startMove_frame (src dst : Zone) (n : TrackNo) (s : State) :
    (s.startMove src dst n).trt = s.trt ∧ (s.startMove src dst n).obk = s.obk ∧ (s.startMove src dst n).cku = s.cku ∧
    (s.startMove src dst n).wsq = s.wsq ∧ (s.startMove src dst n).lbu = s.lbu ∧ (s.startMove src dst n).lnu = s.lnu ∧
    (s.startMove src dst n).sdu = s.sdu ∧ (s.startMove src dst n).lku = s.lku ∧ (s.startMove src dst n).lsv = s.lsv ∧
    (s.startMove src dst n).pins = s.pins ∧ (s.startMove src dst n).ports = s.ports ∧
    (s.startMove src dst n).freeCount = s.freeCount ∧ (s.startMove src dst n).pending = s.pending := by
  unfold startMove
  repeat' first | simp | split

@[simp] theorem tryMove_frame (src dst : Zone) (ok : Pallet → Bool) (s : State) :
    (s.tryMove src dst ok).trt = s.trt ∧ (s.tryMove src dst ok).obk = s.obk ∧ (s.tryMove src dst ok).cku = s.cku ∧
    (s.tryMove src dst ok).wsq = s.wsq ∧ (s.tryMove src dst ok).lbu = s.lbu ∧ (s.tryMove src dst ok).lnu = s.lnu ∧
    (s.tryMove src dst ok).sdu = s.sdu ∧ (s.tryMove src dst ok).lku = s.lku ∧ (s.tryMove src dst ok).lsv = s.lsv ∧
    (s.tryMove src dst ok).pins = s.pins ∧ (s.tryMove src dst ok).ports = s.ports ∧
    (s.tryMove src dst ok).freeCount = s.freeCount ∧ (s.tryMove src dst ok).pending = s.pending := by
  unfold tryMove
  repeat' first | simp | split

@[simp] theorem split_frame (s : State) :
    (s.split).trt = s.trt ∧ (s.split).obk = s.obk ∧ (s.split).cku = s.cku ∧ (s.split).lbu = s.lbu ∧
    (s.split).lnu = s.lnu ∧ (s.split).sdu = s.sdu ∧ (s.split).lku = s.lku ∧ (s.split).lsv = s.lsv ∧
    (s.split).pins = s.pins ∧ (s.split).ports = s.ports ∧ (s.split).freeCount = s.freeCount ∧
    (s.split).pending = s.pending := by
  unfold split
  repeat' first | simp | split

@[simp] theorem discharge_frame (w : Wrapper) (s : State) :
    (s.discharge w).trt = s.trt ∧ (s.discharge w).obk = s.obk ∧ (s.discharge w).cku = s.cku ∧
    (s.discharge w).lbu = s.lbu ∧ (s.discharge w).lnu = s.lnu ∧ (s.discharge w).sdu = s.sdu ∧
    (s.discharge w).lku = s.lku ∧ (s.discharge w).lsv = s.lsv ∧ (s.discharge w).pins = s.pins ∧
    (s.discharge w).ports = s.ports ∧ (s.discharge w).freeCount = s.freeCount ∧
    (s.discharge w).pending = s.pending := by
  unfold discharge
  repeat' first | simp | split

@[simp] theorem grantMerge_frame (s : State) :
    (s.grantMerge).trt = s.trt ∧ (s.grantMerge).obk = s.obk ∧ (s.grantMerge).cku = s.cku ∧
    (s.grantMerge).wsq = s.wsq ∧ (s.grantMerge).lbu = s.lbu ∧ (s.grantMerge).lnu = s.lnu ∧
    (s.grantMerge).sdu = s.sdu ∧ (s.grantMerge).lku = s.lku ∧ (s.grantMerge).lsv = s.lsv ∧
    (s.grantMerge).pins = s.pins ∧ (s.grantMerge).ports = s.ports ∧ (s.grantMerge).freeCount = s.freeCount ∧
    (s.grantMerge).pending = s.pending := by
  unfold grantMerge
  repeat' first | simp | split

@[simp] theorem grantSpur_frame (s : State) :
    (s.grantSpur).trt = s.trt ∧ (s.grantSpur).obk = s.obk ∧ (s.grantSpur).cku = s.cku ∧ (s.grantSpur).wsq = s.wsq ∧
    (s.grantSpur).lbu = s.lbu ∧ (s.grantSpur).lnu = s.lnu ∧ (s.grantSpur).sdu = s.sdu ∧ (s.grantSpur).lku = s.lku ∧
    (s.grantSpur).lsv = s.lsv ∧ (s.grantSpur).pins = s.pins ∧ (s.grantSpur).ports = s.ports ∧
    (s.grantSpur).freeCount = s.freeCount ∧ (s.grantSpur).pending = s.pending := by
  unfold grantSpur
  repeat' first | simp | split

@[simp] theorem moveToSort_frame (s : State) :
    (s.moveToSort).trt = s.trt ∧ (s.moveToSort).obk = s.obk ∧ (s.moveToSort).cku = s.cku ∧
    (s.moveToSort).wsq = s.wsq ∧ (s.moveToSort).lbu = s.lbu ∧ (s.moveToSort).lnu = s.lnu ∧
    (s.moveToSort).sdu = s.sdu ∧ (s.moveToSort).lku = s.lku ∧ (s.moveToSort).lsv = s.lsv ∧
    (s.moveToSort).pins = s.pins ∧ (s.moveToSort).ports = s.ports ∧ (s.moveToSort).freeCount = s.freeCount ∧
    (s.moveToSort).pending = s.pending := by
  unfold moveToSort
  repeat' first | simp | split

@[simp] theorem moveToGate_frame (s : State) :
    (s.moveToGate).trt = s.trt ∧ (s.moveToGate).obk = s.obk ∧ (s.moveToGate).cku = s.cku ∧
    (s.moveToGate).wsq = s.wsq ∧ (s.moveToGate).lbu = s.lbu ∧ (s.moveToGate).lnu = s.lnu ∧
    (s.moveToGate).sdu = s.sdu ∧ (s.moveToGate).lku = s.lku ∧ (s.moveToGate).lsv = s.lsv ∧
    (s.moveToGate).pins = s.pins ∧ (s.moveToGate).ports = s.ports ∧ (s.moveToGate).freeCount = s.freeCount ∧
    (s.moveToGate).pending = s.pending := by
  unfold moveToGate
  repeat' first | simp | split

@[simp] theorem startMoves_frame (s : State) :
    (s.startMoves).trt = s.trt ∧ (s.startMoves).obk = s.obk ∧ (s.startMoves).cku = s.cku ∧
    (s.startMoves).lbu = s.lbu ∧ (s.startMoves).lnu = s.lnu ∧ (s.startMoves).sdu = s.sdu ∧
    (s.startMoves).lku = s.lku ∧ (s.startMoves).lsv = s.lsv ∧ (s.startMoves).pins = s.pins ∧
    (s.startMoves).ports = s.ports ∧ (s.startMoves).freeCount = s.freeCount ∧
    (s.startMoves).pending = s.pending := by
  unfold startMoves
  repeat' first | simp | split

@[simp] theorem settle_frame (s : State) :
    (s.settle).trt = s.trt ∧ (s.settle).obk = s.obk ∧ (s.settle).cku = s.cku ∧ (s.settle).lbu = s.lbu ∧
    (s.settle).lnu = s.lnu ∧ (s.settle).sdu = s.sdu ∧ (s.settle).lku = s.lku ∧ (s.settle).lsv = s.lsv ∧
    (s.settle).pins = s.pins ∧ (s.settle).ports = s.ports ∧ (s.settle).freeCount = s.freeCount ∧
    (s.settle).pending = s.pending := by
  unfold settle
  repeat' first | simp | split

@[simp] theorem eyeInFree_frame (z : Zone) (s : State) :
    (s.eyeInFree z).obk = s.obk ∧ (s.eyeInFree z).cku = s.cku ∧ (s.eyeInFree z).wsq = s.wsq ∧
    (s.eyeInFree z).lbu = s.lbu ∧ (s.eyeInFree z).lnu = s.lnu ∧ (s.eyeInFree z).sdu = s.sdu ∧
    (s.eyeInFree z).lsv = s.lsv ∧ (s.eyeInFree z).pins = s.pins ∧ (s.eyeInFree z).ports = s.ports ∧
    (s.eyeInFree z).freeCount = s.freeCount ∧ (s.eyeInFree z).pending = s.pending := by
  unfold eyeInFree
  repeat' first | simp | split

@[simp] theorem vacate_frame (z : Zone) (s : State) :
    (s.vacate z).obk = s.obk ∧ (s.vacate z).cku = s.cku ∧ (s.vacate z).wsq = s.wsq ∧ (s.vacate z).lbu = s.lbu ∧
    (s.vacate z).lnu = s.lnu ∧ (s.vacate z).sdu = s.sdu ∧ (s.vacate z).lsv = s.lsv ∧ (s.vacate z).pins = s.pins ∧
    (s.vacate z).ports = s.ports ∧ (s.vacate z).freeCount = s.freeCount ∧ (s.vacate z).pending = s.pending := by
  unfold vacate
  repeat' first | simp | split

@[simp] theorem occupy_frame (z : Zone) (n : TrackNo) (s : State) :
    (s.occupy z n).obk = s.obk ∧ (s.occupy z n).cku = s.cku ∧ (s.occupy z n).wsq = s.wsq ∧
    (s.occupy z n).lbu = s.lbu ∧ (s.occupy z n).lnu = s.lnu ∧ (s.occupy z n).sdu = s.sdu ∧
    (s.occupy z n).lku = s.lku ∧ (s.occupy z n).lsv = s.lsv ∧ (s.occupy z n).pins = s.pins ∧
    (s.occupy z n).ports = s.ports ∧ (s.occupy z n).freeCount = s.freeCount ∧
    (s.occupy z n).pending = s.pending := by
  unfold occupy
  repeat' first | simp | split

@[simp] theorem routeDiv2_frame (s : State) :
    (s.routeDiv2).cku = s.cku ∧ (s.routeDiv2).wsq = s.wsq ∧ (s.routeDiv2).lbu = s.lbu ∧ (s.routeDiv2).lnu = s.lnu ∧
    (s.routeDiv2).sdu = s.sdu ∧ (s.routeDiv2).lsv = s.lsv ∧ (s.routeDiv2).pins = s.pins ∧
    (s.routeDiv2).ports = s.ports ∧ (s.routeDiv2).freeCount = s.freeCount ∧ (s.routeDiv2).pending = s.pending := by
  unfold routeDiv2
  repeat' first | simp | split

@[simp] theorem handOn_frame (dst : Zone) (n : TrackNo) (s : State) :
    (s.handOn dst n).lsv = s.lsv ∧ (s.handOn dst n).pins = s.pins ∧ (s.handOn dst n).freeCount = s.freeCount ∧
    (s.handOn dst n).pending = s.pending := by
  unfold handOn
  repeat' first | simp | split

@[simp] theorem arrive_frame (src dst : Zone) (n : TrackNo) (s : State) :
    (s.arrive src dst n).lsv = s.lsv ∧ (s.arrive src dst n).pins = s.pins ∧
    (s.arrive src dst n).freeCount = s.freeCount ∧ (s.arrive src dst n).pending = s.pending := by
  unfold arrive
  repeat' first | simp | split

@[simp] theorem tellUndone_frame (src dst : Zone) (s : State) :
    (s.tellUndone src dst).cku = s.cku ∧ (s.tellUndone src dst).lbu = s.lbu ∧ (s.tellUndone src dst).lnu = s.lnu ∧
    (s.tellUndone src dst).sdu = s.sdu ∧ (s.tellUndone src dst).lsv = s.lsv ∧ (s.tellUndone src dst).pins = s.pins ∧
    (s.tellUndone src dst).ports = s.ports ∧ (s.tellUndone src dst).freeCount = s.freeCount ∧
    (s.tellUndone src dst).pending = s.pending := by
  unfold tellUndone
  repeat' first | simp | split

@[simp] theorem closeGate_frame (n : Lane) (s : State) :
    (s.closeGate n).trt = s.trt ∧ (s.closeGate n).obk = s.obk ∧ (s.closeGate n).cku = s.cku ∧
    (s.closeGate n).wsq = s.wsq ∧ (s.closeGate n).lbu = s.lbu ∧ (s.closeGate n).lnu = s.lnu ∧
    (s.closeGate n).sdu = s.sdu ∧ (s.closeGate n).lku = s.lku ∧ (s.closeGate n).lsv = s.lsv ∧
    (s.closeGate n).pins = s.pins ∧ (s.closeGate n).ports = s.ports ∧ (s.closeGate n).freeCount = s.freeCount ∧
    (s.closeGate n).pending = s.pending := by
  unfold closeGate
  repeat' first | simp | split

@[simp] theorem eyeIsMade_frame (z : Zone) (s : State) :
    (s.eyeIsMade z).lsv = s.lsv ∧ (s.eyeIsMade z).pins = s.pins ∧ (s.eyeIsMade z).freeCount = s.freeCount ∧
    (s.eyeIsMade z).pending = s.pending := by
  unfold eyeIsMade
  repeat' first | simp | split

@[simp] theorem eyeIsCleared_frame (z : Zone) (s : State) :
    (s.eyeIsCleared z).obk = s.obk ∧ (s.eyeIsCleared z).cku = s.cku ∧ (s.eyeIsCleared z).wsq = s.wsq ∧
    (s.eyeIsCleared z).lbu = s.lbu ∧ (s.eyeIsCleared z).lnu = s.lnu ∧ (s.eyeIsCleared z).sdu = s.sdu ∧
    (s.eyeIsCleared z).lku = s.lku ∧ (s.eyeIsCleared z).lsv = s.lsv ∧ (s.eyeIsCleared z).pins = s.pins ∧
    (s.eyeIsCleared z).ports = s.ports ∧ (s.eyeIsCleared z).freeCount = s.freeCount ∧
    (s.eyeIsCleared z).pending = s.pending := by
  unfold eyeIsCleared
  repeat' first | simp | split

@[simp] theorem holdPair_frame (st : ZoneState) (src dst : Zone) (s : State) :
    (s.holdPair st src dst).trt = s.trt ∧ (s.holdPair st src dst).obk = s.obk ∧ (s.holdPair st src dst).cku = s.cku ∧
    (s.holdPair st src dst).wsq = s.wsq ∧ (s.holdPair st src dst).lbu = s.lbu ∧ (s.holdPair st src dst).lnu = s.lnu ∧
    (s.holdPair st src dst).sdu = s.sdu ∧ (s.holdPair st src dst).lku = s.lku ∧ (s.holdPair st src dst).lsv = s.lsv ∧
    (s.holdPair st src dst).pins = s.pins ∧ (s.holdPair st src dst).ports = s.ports ∧
    (s.holdPair st src dst).freeCount = s.freeCount ∧ (s.holdPair st src dst).pending = s.pending := by
  unfold holdPair
  repeat' first | simp | split

@[simp] theorem moveTimeout_frame (src : Zone) (s : State) :
    (s.moveTimeout src).trt = s.trt ∧ (s.moveTimeout src).obk = s.obk ∧ (s.moveTimeout src).cku = s.cku ∧
    (s.moveTimeout src).wsq = s.wsq ∧ (s.moveTimeout src).lbu = s.lbu ∧ (s.moveTimeout src).lnu = s.lnu ∧
    (s.moveTimeout src).sdu = s.sdu ∧ (s.moveTimeout src).lsv = s.lsv ∧ (s.moveTimeout src).pins = s.pins ∧
    (s.moveTimeout src).ports = s.ports ∧ (s.moveTimeout src).freeCount = s.freeCount ∧
    (s.moveTimeout src).pending = s.pending := by
  unfold moveTimeout
  repeat' first | simp | split

@[simp] theorem departureTimeout_frame (n : Lane) (s : State) :
    (s.departureTimeout n).trt = s.trt ∧ (s.departureTimeout n).obk = s.obk ∧ (s.departureTimeout n).cku = s.cku ∧
    (s.departureTimeout n).wsq = s.wsq ∧ (s.departureTimeout n).lbu = s.lbu ∧ (s.departureTimeout n).lnu = s.lnu ∧
    (s.departureTimeout n).sdu = s.sdu ∧ (s.departureTimeout n).lsv = s.lsv ∧ (s.departureTimeout n).pins = s.pins ∧
    (s.departureTimeout n).ports = s.ports ∧ (s.departureTimeout n).freeCount = s.freeCount ∧
    (s.departureTimeout n).pending = s.pending := by
  unfold departureTimeout
  repeat' first | simp | split

@[simp] theorem laneWaitTimeout_frame (s : State) :
    (s.laneWaitTimeout).cku = s.cku ∧ (s.laneWaitTimeout).wsq = s.wsq ∧ (s.laneWaitTimeout).lbu = s.lbu ∧
    (s.laneWaitTimeout).lnu = s.lnu ∧ (s.laneWaitTimeout).sdu = s.sdu ∧ (s.laneWaitTimeout).lsv = s.lsv ∧
    (s.laneWaitTimeout).pins = s.pins ∧ (s.laneWaitTimeout).ports = s.ports ∧
    (s.laneWaitTimeout).freeCount = s.freeCount ∧ (s.laneWaitTimeout).pending = s.pending := by
  unfold laneWaitTimeout
  repeat' first | simp | split

@[simp] theorem laneBound_frame (order : Nat) (s : State) :
    (s.laneBound order).trt = s.trt ∧ (s.laneBound order).obk = s.obk ∧ (s.laneBound order).cku = s.cku ∧
    (s.laneBound order).wsq = s.wsq ∧ (s.laneBound order).lbu = s.lbu ∧ (s.laneBound order).lnu = s.lnu ∧
    (s.laneBound order).sdu = s.sdu ∧ (s.laneBound order).lku = s.lku ∧ (s.laneBound order).lsv = s.lsv ∧
    (s.laneBound order).pins = s.pins ∧ (s.laneBound order).ports = s.ports ∧
    (s.laneBound order).freeCount = s.freeCount ∧ (s.laneBound order).pending = s.pending := by
  unfold laneBound
  repeat' first | simp | split

@[simp] theorem interruptMoves_frame (s : State) :
    (s.interruptMoves).trt = s.trt ∧ (s.interruptMoves).obk = s.obk ∧ (s.interruptMoves).cku = s.cku ∧
    (s.interruptMoves).wsq = s.wsq ∧ (s.interruptMoves).lbu = s.lbu ∧ (s.interruptMoves).lnu = s.lnu ∧
    (s.interruptMoves).sdu = s.sdu ∧ (s.interruptMoves).lku = s.lku ∧ (s.interruptMoves).lsv = s.lsv ∧
    (s.interruptMoves).pins = s.pins ∧ (s.interruptMoves).ports = s.ports ∧
    (s.interruptMoves).freeCount = s.freeCount ∧ (s.interruptMoves).pending = s.pending := by
  unfold interruptMoves
  repeat' first | simp | split

@[simp] theorem resolveMove_frame (src : Zone) (s : State) :
    (s.resolveMove src).lsv = s.lsv ∧ (s.resolveMove src).pins = s.pins ∧
    (s.resolveMove src).freeCount = s.freeCount ∧ (s.resolveMove src).pending = s.pending := by
  unfold resolveMove
  repeat' first | simp | split

@[simp] theorem resolveMoves_frame (s : State) :
    (s.resolveMoves).lsv = s.lsv ∧ (s.resolveMoves).pins = s.pins ∧ (s.resolveMoves).freeCount = s.freeCount ∧
    (s.resolveMoves).pending = s.pending := by
  unfold resolveMoves
  repeat' first | simp | split

@[simp] theorem clearZone_frame (z : Zone) (s : State) :
    (s.clearZone z).trt = s.trt ∧ (s.clearZone z).obk = s.obk ∧ (s.clearZone z).cku = s.cku ∧
    (s.clearZone z).lbu = s.lbu ∧ (s.clearZone z).lnu = s.lnu ∧ (s.clearZone z).sdu = s.sdu ∧
    (s.clearZone z).lku = s.lku ∧ (s.clearZone z).lsv = s.lsv ∧ (s.clearZone z).pins = s.pins ∧
    (s.clearZone z).ports = s.ports ∧ (s.clearZone z).freeCount = s.freeCount ∧
    (s.clearZone z).pending = s.pending := by
  unfold clearZone
  repeat' first | simp | split

@[simp] theorem confirmZone_frame (z other : Zone) (n : TrackNo) (s : State) :
    (s.confirmZone z other n).lsv = s.lsv ∧ (s.confirmZone z other n).pins = s.pins ∧
    (s.confirmZone z other n).freeCount = s.freeCount ∧ (s.confirmZone z other n).pending = s.pending := by
  unfold confirmZone
  repeat' first | simp | split

@[simp] theorem div2OrderEnded_frame (orphans : List TrackNo) (s : State) :
    (s.div2OrderEnded orphans).cku = s.cku ∧ (s.div2OrderEnded orphans).wsq = s.wsq ∧
    (s.div2OrderEnded orphans).lbu = s.lbu ∧ (s.div2OrderEnded orphans).lnu = s.lnu ∧
    (s.div2OrderEnded orphans).sdu = s.sdu ∧ (s.div2OrderEnded orphans).lsv = s.lsv ∧
    (s.div2OrderEnded orphans).pins = s.pins ∧ (s.div2OrderEnded orphans).ports = s.ports ∧
    (s.div2OrderEnded orphans).freeCount = s.freeCount ∧ (s.div2OrderEnded orphans).pending = s.pending := by
  unfold div2OrderEnded
  repeat' first | simp | split

/-! ### Ends -/

@[simp] theorem tellOrderEnded_frame (orphans : List TrackNo) (s : State) :
    (s.tellOrderEnded orphans).cku = s.cku ∧ (s.tellOrderEnded orphans).wsq = s.wsq ∧
    (s.tellOrderEnded orphans).lnu = s.lnu ∧ (s.tellOrderEnded orphans).sdu = s.sdu ∧
    (s.tellOrderEnded orphans).lsv = s.lsv ∧ (s.tellOrderEnded orphans).pins = s.pins ∧
    (s.tellOrderEnded orphans).ports = s.ports ∧ (s.tellOrderEnded orphans).freeCount = s.freeCount ∧
    (s.tellOrderEnded orphans).pending = s.pending := by
  unfold tellOrderEnded
  repeat' first | simp | split

@[simp] theorem cancelOrder_frame (number : Nat) (s : State) :
    (s.cancelOrder number).cku = s.cku ∧ (s.cancelOrder number).wsq = s.wsq ∧ (s.cancelOrder number).sdu = s.sdu ∧
    (s.cancelOrder number).lsv = s.lsv ∧ (s.cancelOrder number).pins = s.pins ∧
    (s.cancelOrder number).ports = s.ports ∧ (s.cancelOrder number).freeCount = s.freeCount ∧
    (s.cancelOrder number).pending = s.pending := by
  unfold cancelOrder
  repeat' first | simp | split

@[simp] theorem cutOff_frame (n : Lane) (s : State) :
    (s.cutOff n).cku = s.cku ∧ (s.cutOff n).wsq = s.wsq ∧ (s.cutOff n).sdu = s.sdu ∧ (s.cutOff n).lsv = s.lsv ∧
    (s.cutOff n).pins = s.pins ∧ (s.cutOff n).ports = s.ports ∧ (s.cutOff n).freeCount = s.freeCount ∧
    (s.cutOff n).pending = s.pending := by
  unfold cutOff
  repeat' first | simp | split

@[simp] theorem minuteExpired_frame (n : Lane) (s : State) :
    (s.minuteExpired n).cku = s.cku ∧ (s.minuteExpired n).wsq = s.wsq ∧ (s.minuteExpired n).sdu = s.sdu ∧
    (s.minuteExpired n).lsv = s.lsv ∧ (s.minuteExpired n).pins = s.pins ∧ (s.minuteExpired n).ports = s.ports ∧
    (s.minuteExpired n).freeCount = s.freeCount ∧ (s.minuteExpired n).pending = s.pending := by
  unfold minuteExpired
  repeat' first | simp | split

@[simp] theorem storeWritten_frame (w : StoreWrite) (s : State) :
    (s.storeWritten w).trt = s.trt ∧ (s.storeWritten w).obk = s.obk ∧ (s.storeWritten w).cku = s.cku ∧
    (s.storeWritten w).znc = s.znc ∧ (s.storeWritten w).wsq = s.wsq ∧ (s.storeWritten w).lbu = s.lbu ∧
    (s.storeWritten w).lnu = s.lnu ∧ (s.storeWritten w).lku = s.lku ∧ (s.storeWritten w).lsv = s.lsv ∧
    (s.storeWritten w).pins = s.pins ∧ (s.storeWritten w).ports = s.ports ∧
    (s.storeWritten w).freeCount = s.freeCount ∧ (s.storeWritten w).pending = s.pending := by
  unfold storeWritten
  repeat' first | simp | split

@[simp] theorem storeFailed_frame (w : StoreWrite) (s : State) :
    (s.storeFailed w).trt = s.trt ∧ (s.storeFailed w).obk = s.obk ∧ (s.storeFailed w).cku = s.cku ∧
    (s.storeFailed w).znc = s.znc ∧ (s.storeFailed w).wsq = s.wsq ∧ (s.storeFailed w).lbu = s.lbu ∧
    (s.storeFailed w).lnu = s.lnu ∧ (s.storeFailed w).lku = s.lku ∧ (s.storeFailed w).lsv = s.lsv ∧
    (s.storeFailed w).pins = s.pins ∧ (s.storeFailed w).ports = s.ports ∧ (s.storeFailed w).pending = s.pending := by
  unfold storeFailed
  repeat' first | simp | split

@[simp] theorem handResult_frame (w : StoreWrite) (done : Bool) (s : State) :
    (s.handResult w done).znc = s.znc ∧ (s.handResult w done).wsq = s.wsq ∧ (s.handResult w done).lnu = s.lnu ∧
    (s.handResult w done).lsv = s.lsv ∧ (s.handResult w done).pins = s.pins ∧
    (s.handResult w done).freeCount = s.freeCount ∧ (s.handResult w done).pending = s.pending := by
  unfold handResult
  repeat' first | simp | split

@[simp] theorem hostEnded_frame (job : HostJob) (done : Bool) (s : State) :
    (s.hostEnded job done).znc = s.znc ∧ (s.hostEnded job done).wsq = s.wsq ∧ (s.hostEnded job done).lnu = s.lnu ∧
    (s.hostEnded job done).lsv = s.lsv ∧ (s.hostEnded job done).pins = s.pins ∧
    (s.hostEnded job done).pending = s.pending := by
  unfold hostEnded
  repeat' first | simp | split

@[simp] theorem reservationEnded_frame (c : SiteData) (done : Bool) (s : State) :
    (s.reservationEnded c done).cku = s.cku ∧ (s.reservationEnded c done).znc = s.znc ∧
    (s.reservationEnded c done).wsq = s.wsq ∧ (s.reservationEnded c done).lnu = s.lnu ∧
    (s.reservationEnded c done).lsv = s.lsv ∧ (s.reservationEnded c done).pins = s.pins ∧
    (s.reservationEnded c done).pending = s.pending := by
  unfold reservationEnded
  repeat' first | simp | split

@[simp] theorem endWrite_frame (done : Bool) (s : State) :
    (s.endWrite done).znc = s.znc ∧ (s.endWrite done).wsq = s.wsq ∧ (s.endWrite done).lnu = s.lnu ∧
    (s.endWrite done).lsv = s.lsv ∧ (s.endWrite done).pins = s.pins ∧ (s.endWrite done).pending = s.pending := by
  unfold endWrite
  repeat' first | simp | split

@[simp] theorem writeReported_frame (report : StoreReport) (s : State) :
    (s.writeReported report).znc = s.znc ∧ (s.writeReported report).wsq = s.wsq ∧
    (s.writeReported report).lnu = s.lnu ∧ (s.writeReported report).lsv = s.lsv ∧
    (s.writeReported report).pins = s.pins ∧ (s.writeReported report).pending = s.pending := by
  unfold writeReported
  repeat' first | simp | split

@[simp] theorem writeTimeout_frame (s : State) :
    (s.writeTimeout).znc = s.znc ∧ (s.writeTimeout).wsq = s.wsq ∧ (s.writeTimeout).lnu = s.lnu ∧
    (s.writeTimeout).lsv = s.lsv ∧ (s.writeTimeout).pins = s.pins ∧ (s.writeTimeout).pending = s.pending := by
  unfold writeTimeout
  repeat' first | simp | split

/-! ### TrackTable -/

@[simp] theorem stand_frame (n : TrackNo) (s : State) :
    (s.stand n).obk = s.obk ∧ (s.stand n).wsq = s.wsq ∧ (s.stand n).lnu = s.lnu ∧ (s.stand n).lsv = s.lsv ∧
    (s.stand n).pins = s.pins ∧ (s.stand n).ports = s.ports ∧ (s.stand n).freeCount = s.freeCount ∧
    (s.stand n).pending = s.pending := by
  unfold stand
  repeat' first | simp | split

@[simp] theorem create_frame (tag : Option Tag) (s : State) :
    (s.create tag).obk = s.obk ∧ (s.create tag).wsq = s.wsq ∧ (s.create tag).lnu = s.lnu ∧
    (s.create tag).lsv = s.lsv ∧ (s.create tag).pins = s.pins ∧ (s.create tag).ports = s.ports ∧
    (s.create tag).freeCount = s.freeCount ∧ (s.create tag).pending = s.pending := by
  unfold create
  repeat' first | simp | split

@[simp] theorem reuse_frame (n : TrackNo) (t : Tag) (s : State) :
    (s.reuse n t).obk = s.obk ∧ (s.reuse n t).wsq = s.wsq ∧ (s.reuse n t).lnu = s.lnu ∧ (s.reuse n t).lsv = s.lsv ∧
    (s.reuse n t).pins = s.pins ∧ (s.reuse n t).ports = s.ports ∧ (s.reuse n t).freeCount = s.freeCount ∧
    (s.reuse n t).pending = s.pending := by
  unfold reuse
  repeat' first | simp | split

@[simp] theorem identify_frame (tag : Option Tag) (s : State) :
    (s.identify tag).obk = s.obk ∧ (s.identify tag).wsq = s.wsq ∧ (s.identify tag).lnu = s.lnu ∧
    (s.identify tag).lsv = s.lsv ∧ (s.identify tag).pins = s.pins ∧ (s.identify tag).ports = s.ports ∧
    (s.identify tag).freeCount = s.freeCount ∧ (s.identify tag).pending = s.pending := by
  unfold identify
  repeat' first | simp | split

@[simp] theorem takeTag_frame (read : Option TagFields) (s : State) :
    (s.takeTag read).obk = s.obk ∧ (s.takeTag read).wsq = s.wsq ∧ (s.takeTag read).lnu = s.lnu ∧
    (s.takeTag read).lsv = s.lsv ∧ (s.takeTag read).pins = s.pins ∧ (s.takeTag read).ports = s.ports ∧
    (s.takeTag read).freeCount = s.freeCount ∧ (s.takeTag read).pending = s.pending := by
  unfold takeTag
  repeat' first | simp | split

@[simp] theorem tagTimeout_frame (s : State) :
    (s.tagTimeout).obk = s.obk ∧ (s.tagTimeout).wsq = s.wsq ∧ (s.tagTimeout).lnu = s.lnu ∧
    (s.tagTimeout).lsv = s.lsv ∧ (s.tagTimeout).pins = s.pins ∧ (s.tagTimeout).ports = s.ports ∧
    (s.tagTimeout).freeCount = s.freeCount ∧ (s.tagTimeout).pending = s.pending := by
  unfold tagTimeout
  repeat' first | simp | split

@[simp] theorem returnPallet_frame (n : TrackNo) (s : State) :
    (s.returnPallet n).obk = s.obk ∧ (s.returnPallet n).cku = s.cku ∧ (s.returnPallet n).wsq = s.wsq ∧
    (s.returnPallet n).lbu = s.lbu ∧ (s.returnPallet n).lnu = s.lnu ∧ (s.returnPallet n).sdu = s.sdu ∧
    (s.returnPallet n).lsv = s.lsv ∧ (s.returnPallet n).pins = s.pins ∧ (s.returnPallet n).ports = s.ports ∧
    (s.returnPallet n).freeCount = s.freeCount ∧ (s.returnPallet n).pending = s.pending := by
  unfold returnPallet
  repeat' first | simp | split

@[simp] theorem pairRemoved_frame (z q : Zone) (s : State) :
    (s.pairRemoved z q).trt = s.trt ∧ (s.pairRemoved z q).obk = s.obk ∧ (s.pairRemoved z q).cku = s.cku ∧
    (s.pairRemoved z q).lbu = s.lbu ∧ (s.pairRemoved z q).lnu = s.lnu ∧ (s.pairRemoved z q).sdu = s.sdu ∧
    (s.pairRemoved z q).lku = s.lku ∧ (s.pairRemoved z q).lsv = s.lsv ∧ (s.pairRemoved z q).pins = s.pins ∧
    (s.pairRemoved z q).ports = s.ports ∧ (s.pairRemoved z q).freeCount = s.freeCount ∧
    (s.pairRemoved z q).pending = s.pending := by
  unfold pairRemoved
  repeat' first | simp | split

@[simp] theorem clearPlace_frame (place : RemovalPlace) (s : State) :
    (s.clearPlace place).trt = s.trt ∧ (s.clearPlace place).obk = s.obk ∧ (s.clearPlace place).cku = s.cku ∧
    (s.clearPlace place).lbu = s.lbu ∧ (s.clearPlace place).lnu = s.lnu ∧ (s.clearPlace place).sdu = s.sdu ∧
    (s.clearPlace place).lku = s.lku ∧ (s.clearPlace place).lsv = s.lsv ∧ (s.clearPlace place).pins = s.pins ∧
    (s.clearPlace place).ports = s.ports ∧ (s.clearPlace place).freeCount = s.freeCount ∧
    (s.clearPlace place).pending = s.pending := by
  unfold clearPlace
  repeat' first | simp | split

@[simp] theorem retireRemoved_frame (n : TrackNo) (s : State) :
    (s.retireRemoved n).obk = s.obk ∧ (s.retireRemoved n).znc = s.znc ∧ (s.retireRemoved n).wsq = s.wsq ∧
    (s.retireRemoved n).lbu = s.lbu ∧ (s.retireRemoved n).lnu = s.lnu ∧ (s.retireRemoved n).sdu = s.sdu ∧
    (s.retireRemoved n).lsv = s.lsv ∧ (s.retireRemoved n).pins = s.pins ∧ (s.retireRemoved n).ports = s.ports ∧
    (s.retireRemoved n).freeCount = s.freeCount ∧ (s.retireRemoved n).pending = s.pending := by
  unfold retireRemoved
  repeat' first | simp | split

@[simp] theorem removePallet_frame (n : TrackNo) (place : RemovalPlace) (s : State) :
    (s.removePallet n place).lbu = s.lbu ∧ (s.removePallet n place).lnu = s.lnu ∧
    (s.removePallet n place).sdu = s.sdu ∧ (s.removePallet n place).lsv = s.lsv ∧
    (s.removePallet n place).pins = s.pins ∧ (s.removePallet n place).ports = s.ports ∧
    (s.removePallet n place).freeCount = s.freeCount ∧ (s.removePallet n place).pending = s.pending := by
  unfold removePallet
  repeat' first | simp | split

/-! ### Supervisor -/

@[simp] theorem enterLine_frame (entered : LineState) (cause : LineCause) (s : State) :
    (s.enterLine entered cause).trt = s.trt ∧ (s.enterLine entered cause).obk = s.obk ∧
    (s.enterLine entered cause).cku = s.cku ∧ (s.enterLine entered cause).znc = s.znc ∧
    (s.enterLine entered cause).wsq = s.wsq ∧ (s.enterLine entered cause).lbu = s.lbu ∧
    (s.enterLine entered cause).lnu = s.lnu ∧ (s.enterLine entered cause).sdu = s.sdu ∧
    (s.enterLine entered cause).pins = s.pins ∧ (s.enterLine entered cause).ports = s.ports ∧
    (s.enterLine entered cause).freeCount = s.freeCount ∧ (s.enterLine entered cause).pending = s.pending := by
  unfold enterLine
  repeat' first | simp | split

@[simp] theorem resumeWraps_frame (s : State) :
    (s.resumeWraps).obk = s.obk ∧ (s.resumeWraps).cku = s.cku ∧ (s.resumeWraps).znc = s.znc ∧
    (s.resumeWraps).lbu = s.lbu ∧ (s.resumeWraps).lnu = s.lnu ∧ (s.resumeWraps).sdu = s.sdu ∧
    (s.resumeWraps).lsv = s.lsv ∧ (s.resumeWraps).pins = s.pins ∧ (s.resumeWraps).freeCount = s.freeCount ∧
    (s.resumeWraps).pending = s.pending := by
  unfold resumeWraps
  repeat' first | simp | split

@[simp] theorem takeRunning_frame (s : State) :
    (s.takeRunning).lbu = s.lbu ∧ (s.takeRunning).sdu = s.sdu ∧ (s.takeRunning).lsv = s.lsv ∧
    (s.takeRunning).pins = s.pins ∧ (s.takeRunning).freeCount = s.freeCount ∧
    (s.takeRunning).pending = s.pending := by
  unfold takeRunning
  repeat' first | simp | split

@[simp] theorem writeKey_frame (key : KeyPosition) (s : State) :
    (s.writeKey key).lbu = s.lbu ∧ (s.writeKey key).sdu = s.sdu ∧ (s.writeKey key).pins = s.pins ∧
    (s.writeKey key).freeCount = s.freeCount ∧ (s.writeKey key).pending = s.pending := by
  unfold writeKey
  repeat' first | simp | split

@[simp] theorem changeKey_frame (key : KeyPosition) (s : State) :
    (s.changeKey key).lbu = s.lbu ∧ (s.changeKey key).sdu = s.sdu ∧ (s.changeKey key).pins = s.pins ∧
    (s.changeKey key).freeCount = s.freeCount ∧ (s.changeKey key).pending = s.pending := by
  unfold changeKey
  repeat' first | simp | split

@[simp] theorem stopBlocks_frame (s : State) :
    (s.stopBlocks).obk = s.obk ∧ (s.stopBlocks).lnu = s.lnu ∧ (s.stopBlocks).sdu = s.sdu ∧
    (s.stopBlocks).lku = s.lku ∧ (s.stopBlocks).lsv = s.lsv ∧ (s.stopBlocks).pins = s.pins ∧
    (s.stopBlocks).ports = s.ports ∧ (s.stopBlocks).freeCount = s.freeCount ∧
    (s.stopBlocks).pending = s.pending := by
  unfold stopBlocks
  repeat' first | simp | split

@[simp] theorem openChain_frame (s : State) :
    (s.openChain).obk = s.obk ∧ (s.openChain).lnu = s.lnu ∧ (s.openChain).sdu = s.sdu ∧ (s.openChain).pins = s.pins ∧
    (s.openChain).ports = s.ports ∧ (s.openChain).freeCount = s.freeCount ∧ (s.openChain).pending = s.pending := by
  unfold openChain
  dsimp only
  split
  · simp
  · split <;> simp

@[simp] theorem closeChain_frame (s : State) :
    (s.closeChain).trt = s.trt ∧ (s.closeChain).obk = s.obk ∧ (s.closeChain).cku = s.cku ∧
    (s.closeChain).znc = s.znc ∧ (s.closeChain).wsq = s.wsq ∧ (s.closeChain).lbu = s.lbu ∧
    (s.closeChain).lnu = s.lnu ∧ (s.closeChain).sdu = s.sdu ∧ (s.closeChain).lku = s.lku ∧
    (s.closeChain).pins = s.pins ∧ (s.closeChain).ports = s.ports ∧ (s.closeChain).freeCount = s.freeCount ∧
    (s.closeChain).pending = s.pending := by
  unfold closeChain
  repeat' first | simp | split

@[simp] theorem restartLine_frame (s : State) :
    (s.restartLine).pins = s.pins ∧ (s.restartLine).freeCount = s.freeCount ∧
    (s.restartLine).pending = s.pending := by
  unfold restartLine
  repeat' first | simp | split

@[simp] theorem tickZones_frame (s : State) :
    (s.tickZones).trt = s.trt ∧ (s.tickZones).obk = s.obk ∧ (s.tickZones).cku = s.cku ∧ (s.tickZones).wsq = s.wsq ∧
    (s.tickZones).lbu = s.lbu ∧ (s.tickZones).lnu = s.lnu ∧ (s.tickZones).sdu = s.sdu ∧ (s.tickZones).lku = s.lku ∧
    (s.tickZones).lsv = s.lsv ∧ (s.tickZones).pins = s.pins ∧ (s.tickZones).ports = s.ports ∧
    (s.tickZones).freeCount = s.freeCount ∧ (s.tickZones).pending = s.pending := by
  unfold tickZones
  repeat' first | simp | split

@[simp] theorem tickLanes_frame (s : State) :
    (s.tickLanes).trt = s.trt ∧ (s.tickLanes).obk = s.obk ∧ (s.tickLanes).cku = s.cku ∧ (s.tickLanes).znc = s.znc ∧
    (s.tickLanes).wsq = s.wsq ∧ (s.tickLanes).lbu = s.lbu ∧ (s.tickLanes).sdu = s.sdu ∧ (s.tickLanes).lku = s.lku ∧
    (s.tickLanes).lsv = s.lsv ∧ (s.tickLanes).pins = s.pins ∧ (s.tickLanes).ports = s.ports ∧
    (s.tickLanes).freeCount = s.freeCount ∧ (s.tickLanes).pending = s.pending := by
  unfold tickLanes
  repeat' first | simp | split

@[simp] theorem tickTimers_frame (s : State) :
    (s.tickTimers).obk = s.obk ∧ (s.tickTimers).sdu = s.sdu ∧ (s.tickTimers).lku = s.lku ∧
    (s.tickTimers).lsv = s.lsv ∧ (s.tickTimers).pins = s.pins ∧ (s.tickTimers).ports = s.ports ∧
    (s.tickTimers).freeCount = s.freeCount ∧ (s.tickTimers).pending = s.pending := by
  unfold tickTimers
  repeat' first | simp | split

@[simp] theorem tick_frame (s : State) :
    (s.tick).obk = s.obk ∧ (s.tick).sdu = s.sdu ∧ (s.tick).lku = s.lku ∧ (s.tick).pins = s.pins ∧
    (s.tick).ports = s.ports ∧ (s.tick).freeCount = s.freeCount ∧ (s.tick).pending = s.pending := by
  unfold tick
  repeat' first | simp | split

@[simp] theorem beginPowerUp_frame (s : State) :
    (s.beginPowerUp).trt = s.trt ∧ (s.beginPowerUp).obk = s.obk ∧ (s.beginPowerUp).cku = s.cku ∧
    (s.beginPowerUp).znc = s.znc ∧ (s.beginPowerUp).lbu = s.lbu ∧ (s.beginPowerUp).lnu = s.lnu ∧
    (s.beginPowerUp).lsv = s.lsv ∧ (s.beginPowerUp).pins = s.pins ∧ (s.beginPowerUp).freeCount = s.freeCount ∧
    (s.beginPowerUp).pending = s.pending := by
  unfold beginPowerUp
  repeat' first | simp | split

@[simp] theorem startZones_frame (s : State) :
    (s.startZones).trt = s.trt ∧ (s.startZones).obk = s.obk ∧ (s.startZones).cku = s.cku ∧
    (s.startZones).wsq = s.wsq ∧ (s.startZones).lbu = s.lbu ∧ (s.startZones).lnu = s.lnu ∧
    (s.startZones).sdu = s.sdu ∧ (s.startZones).lku = s.lku ∧ (s.startZones).lsv = s.lsv ∧
    (s.startZones).pins = s.pins ∧ (s.startZones).ports = s.ports ∧ (s.startZones).freeCount = s.freeCount ∧
    (s.startZones).pending = s.pending := by
  unfold startZones
  refine ⟨foldl_trt _ _ _ ?_, foldl_obk _ _ _ ?_, foldl_cku _ _ _ ?_, foldl_wsq _ _ _ ?_, foldl_lbu _ _ _ ?_, foldl_lnu _ _ _ ?_, foldl_sdu _ _ _ ?_, foldl_lku _ _ _ ?_, foldl_lsv _ _ _ ?_, foldl_pins _ _ _ ?_, foldl_ports _ _ _ ?_, foldl_freeCount _ _ _ ?_, foldl_pending _ _ _ ?_⟩ <;> intros <;> rfl

@[simp] theorem startLanes_frame (s : State) :
    (s.startLanes).trt = s.trt ∧ (s.startLanes).obk = s.obk ∧ (s.startLanes).cku = s.cku ∧
    (s.startLanes).znc = s.znc ∧ (s.startLanes).wsq = s.wsq ∧ (s.startLanes).lbu = s.lbu ∧
    (s.startLanes).sdu = s.sdu ∧ (s.startLanes).lku = s.lku ∧ (s.startLanes).lsv = s.lsv ∧
    (s.startLanes).pins = s.pins ∧ (s.startLanes).ports = s.ports ∧ (s.startLanes).freeCount = s.freeCount ∧
    (s.startLanes).pending = s.pending := by
  unfold startLanes
  repeat' first | simp | split

@[simp] theorem endStartUp_frame (s : State) :
    (s.endStartUp).trt = s.trt ∧ (s.endStartUp).obk = s.obk ∧ (s.endStartUp).cku = s.cku ∧
    (s.endStartUp).pins = s.pins ∧ (s.endStartUp).ports = s.ports ∧ (s.endStartUp).freeCount = s.freeCount ∧
    (s.endStartUp).pending = s.pending := by
  unfold endStartUp
  repeat' first | simp | split

/-! ### Link -/

@[simp] theorem countError_frame (s : State) :
    (s.countError).trt = s.trt ∧ (s.countError).obk = s.obk ∧ (s.countError).cku = s.cku ∧
    (s.countError).znc = s.znc ∧ (s.countError).wsq = s.wsq ∧ (s.countError).lbu = s.lbu ∧
    (s.countError).lnu = s.lnu ∧ (s.countError).sdu = s.sdu ∧ (s.countError).lsv = s.lsv ∧
    (s.countError).pins = s.pins ∧ (s.countError).ports = s.ports ∧ (s.countError).freeCount = s.freeCount ∧
    (s.countError).pending = s.pending := by
  unfold countError
  repeat' first | simp | split

@[simp] theorem listenAt_frame (r : Receiver) (s : State) :
    (s.listenAt r).trt = s.trt ∧ (s.listenAt r).obk = s.obk ∧ (s.listenAt r).cku = s.cku ∧
    (s.listenAt r).znc = s.znc ∧ (s.listenAt r).wsq = s.wsq ∧ (s.listenAt r).lbu = s.lbu ∧
    (s.listenAt r).lnu = s.lnu ∧ (s.listenAt r).sdu = s.sdu ∧ (s.listenAt r).lsv = s.lsv ∧
    (s.listenAt r).pins = s.pins ∧ (s.listenAt r).ports = s.ports ∧ (s.listenAt r).freeCount = s.freeCount ∧
    (s.listenAt r).pending = s.pending := by
  unfold listenAt
  repeat' first | simp | split

@[simp] theorem hunt_frame (s : State) :
    (s.hunt).trt = s.trt ∧ (s.hunt).obk = s.obk ∧ (s.hunt).cku = s.cku ∧ (s.hunt).znc = s.znc ∧
    (s.hunt).wsq = s.wsq ∧ (s.hunt).lbu = s.lbu ∧ (s.hunt).lnu = s.lnu ∧ (s.hunt).sdu = s.sdu ∧
    (s.hunt).lsv = s.lsv ∧ (s.hunt).pins = s.pins ∧ (s.hunt).ports = s.ports ∧ (s.hunt).freeCount = s.freeCount ∧
    (s.hunt).pending = s.pending := by
  unfold hunt
  repeat' first | simp | split

@[simp] theorem discard_frame (s : State) :
    (s.discard).trt = s.trt ∧ (s.discard).obk = s.obk ∧ (s.discard).cku = s.cku ∧ (s.discard).znc = s.znc ∧
    (s.discard).wsq = s.wsq ∧ (s.discard).lbu = s.lbu ∧ (s.discard).lnu = s.lnu ∧ (s.discard).sdu = s.sdu ∧
    (s.discard).lsv = s.lsv ∧ (s.discard).pins = s.pins ∧ (s.discard).ports = s.ports ∧
    (s.discard).freeCount = s.freeCount ∧ (s.discard).pending = s.pending := by
  unfold discard
  repeat' first | simp | split

@[simp] theorem gapTimeout_frame (s : State) :
    (s.gapTimeout).trt = s.trt ∧ (s.gapTimeout).obk = s.obk ∧ (s.gapTimeout).cku = s.cku ∧
    (s.gapTimeout).znc = s.znc ∧ (s.gapTimeout).wsq = s.wsq ∧ (s.gapTimeout).lbu = s.lbu ∧
    (s.gapTimeout).lnu = s.lnu ∧ (s.gapTimeout).sdu = s.sdu ∧ (s.gapTimeout).lsv = s.lsv ∧
    (s.gapTimeout).pins = s.pins ∧ (s.gapTimeout).ports = s.ports ∧ (s.gapTimeout).freeCount = s.freeCount ∧
    (s.gapTimeout).pending = s.pending := by
  unfold gapTimeout
  repeat' first | simp | split

end Sys2Proof.Machine.State
end

