-- ==== Sys2Proof/Laws/Moves.lean ====
section
/-! SUPPORT. What the start of moves can do: one move's zones, the candidates, and for each row and arbiter that only its
own OCCUPIED sources and FREE destinations change (R81, R85, R89 to R98). -/

namespace Sys2Proof.Machine.State

/-! ### One move -/

/-- The zones after a move has started (R81). -/
theorem zone_startMove {src dst : Zone} (h : src ≠ dst) (n : TrackNo) (s : State) (z : Zone) :
    (s.startMove src dst n).zone z =
      if z = src then { s.zone src with
        state := .leaving, partner := some dst, moveTimer := .running s.sdu.inForce.move, drive := true }
      else if z = dst then { s.zone dst with
        state := .reserved, record := some n, partner := some src, drive := true }
      else s.zone z := by
  have out : ∀ (u : State) (f : ZoneUnit → ZoneUnit), (∀ k, (f k).zones = k.zones) →
      (u.modZnc f).zone z = u.zone z := by
    intro u f hf; simp [State.zone, modZnc, hf]
  unfold startMove
  rw [out]
  · by_cases h1 : z = src
    · subst h1; simp [h]
    · by_cases h2 : z = dst
      · subst h2; simp [h1]
      · simp [h1, h2]
  · intro k; cases src <;> cases dst <;> rfl

/-- A move that starts leaves the splitter's memory, SORT's route, the lane wait and the gate outputs. -/
theorem startMove_znc (src dst : Zone) (n : TrackNo) (s : State) :
    (s.startMove src dst n).znc.splitter = s.znc.splitter ∧ (s.startMove src dst n).znc.route = s.znc.route ∧
    (s.startMove src dst n).znc.laneWait = s.znc.laneWait ∧ (s.startMove src dst n).znc.gates = s.znc.gates := by
  cases src <;> cases dst <;> exact ⟨rfl, rfl, rfl, rfl⟩

theorem occupant_occupied {s : State} {z : Zone} {n : TrackNo} (h : s.occupant z = some n) :
    (s.zone z).state = .occupied := by
  unfold occupant at h
  split at h
  · assumption
  · simp at h

/-- A candidate is the record OCCUPIED in the zone, with the line RUNNING and its test holding. -/
theorem candidate_eq_some {s : State} {src : Zone} {ok : Pallet → Bool} {n : TrackNo} :
    s.candidate src ok = some n ↔
      s.occupant src = some n ∧ s.lsv.line = .running ∧ ∃ p, s.pallet n = some p ∧ ok p = true := by
  unfold candidate isRunning
  cases h : s.occupant src with
  | none => simp
  | some m =>
    simp only [Option.some.injEq]
    constructor
    · intro hm
      split at hm
      · rename_i p hp
        split at hm
        · rename_i hc
          cases hm
          simp only [Bool.and_eq_true, beq_iff_eq] at hc
          exact ⟨rfl, hc.1, p, hp, hc.2⟩
        · cases hm
      · cases hm
    · rintro ⟨rfl, hl, p, hp, hk⟩
      simp [hp, hl, hk]

theorem candidate_eq_none {s : State} {src : Zone} {ok : Pallet → Bool}
    (h : ∀ n p, s.occupant src = some n → s.pallet n = some p → ok p = false) : s.candidate src ok = none := by
  refine Option.eq_none_iff_forall_not_mem.mpr fun n hn => ?_
  obtain ⟨ho, _, p, hp, hk⟩ := candidate_eq_some.mp hn
  rw [h n p ho hp] at hk
  exact absurd hk (by decide)

/-! ### What the start of moves keeps -/

/-- What the start of moves out of some zones into some zones may do: a zone that changes was OCCUPIED and is one of the
sources, or was FREE and is one of the destinations; the records, the line, the clock and the book stay. -/
structure MovesOnly (src dst : Zone → Prop) (s t : State) : Prop where
  zone : ∀ z, t.zone z = s.zone z ∨ ((s.zone z).state = .occupied ∧ src z) ∨ ((s.zone z).state = .free ∧ dst z)
  trt : t.trt = s.trt
  obk : t.obk = s.obk
  cku : t.cku = s.cku
  sdu : t.sdu = s.sdu
  lsv : t.lsv = s.lsv

namespace MovesOnly

theorem refl (src dst : Zone → Prop) (s : State) : MovesOnly src dst s s :=
  ⟨fun _ => .inl rfl, rfl, rfl, rfl, rfl, rfl⟩

variable {src dst src' dst' : Zone → Prop} {s t u : State} {z : Zone}

theorem occupied (h : MovesOnly src dst s t) (ho : (s.zone z).state = .occupied) (hz : ¬ src z) :
    t.zone z = s.zone z := by
  rcases h.zone z with h' | h' | h'
  · exact h'
  · exact absurd h'.2 hz
  · rw [ho] at h'; exact absurd h'.1 (by decide)

theorem free (h : MovesOnly src dst s t) (ho : (s.zone z).state = .free) (hz : ¬ dst z) : t.zone z = s.zone z := by
  rcases h.zone z with h' | h' | h'
  · exact h'
  · rw [ho] at h'; exact absurd h'.1 (by decide)
  · exact absurd h'.2 hz

theorem other (h : MovesOnly src dst s t) (h1 : ¬ src z) (h2 : ¬ dst z) : t.zone z = s.zone z := by
  rcases h.zone z with h' | h' | h'
  · exact h'
  · exact absurd h'.2 h1
  · exact absurd h'.2 h2

/-- A zone neither OCCUPIED nor FREE stays as it is. -/
theorem busy (h : MovesOnly src dst s t) (h1 : (s.zone z).state ≠ .occupied) (h2 : (s.zone z).state ≠ .free) :
    t.zone z = s.zone z := by
  rcases h.zone z with h' | h' | h'
  · exact h'
  · exact absurd h'.1 h1
  · exact absurd h'.1 h2

theorem mono (h : MovesOnly src dst s t) (hs : ∀ z, src z → src' z) (hd : ∀ z, dst z → dst' z) :
    MovesOnly src' dst' s t :=
  { h with zone := fun z => (h.zone z).imp id (Or.imp (And.imp id (hs z)) (And.imp id (hd z))) }

theorem pallet (h : MovesOnly src dst s t) (n : TrackNo) : t.pallet n = s.pallet n := pallet_congr h.trt n

theorem order (h : MovesOnly src dst s t) (n : Nat) : t.order n = s.order n := order_congr h.obk n

theorem occupant_eq (_ : MovesOnly src dst s t) (hz : t.zone z = s.zone z) : t.occupant z = s.occupant z := by
  unfold occupant; rw [hz]

end MovesOnly

theorem movesOnly_startMove {s : State} {src dst : Zone} {n : TrackNo} (h : src ≠ dst)
    (h1 : (s.zone src).state = .occupied) (h2 : (s.zone dst).state = .free) :
    MovesOnly (· = src) (· = dst) s (s.startMove src dst n) where
  zone z := by
    rw [zone_startMove h]
    by_cases h3 : z = src
    · subst h3; exact .inr (.inl ⟨h1, rfl⟩)
    · by_cases h4 : z = dst
      · subst h4; exact .inr (.inr ⟨h2, rfl⟩)
      · exact .inl (by simp [h3, h4])
  trt := by simp
  obk := by simp
  cku := by simp
  sdu := by simp
  lsv := by simp

/-- A row of the move table: the move starts when the zone's record is a candidate and the destination FREE. -/
theorem tryMove_eq (s : State) (src dst : Zone) (ok : Pallet → Bool) :
    s.tryMove src dst ok = match s.candidate src ok with
      | some n => if (s.zone dst).state = .free then s.startMove src dst n else s
      | none => s := by
  unfold tryMove isFree
  split <;> simp [*]

theorem movesOnly_tryMove {src dst : Zone} (h : src ≠ dst) (ok : Pallet → Bool) (s : State) :
    MovesOnly (· = src) (· = dst) s (s.tryMove src dst ok) := by
  rw [tryMove_eq]
  split
  · rename_i n hc
    split
    · exact movesOnly_startMove h (occupant_occupied (candidate_eq_some.mp hc).1) (by assumption)
    · exact .refl _ _ _
  · exact .refl _ _ _

/-- Starts one after the other. -/
theorem MovesOnly.trans {src dst src' dst' : Zone → Prop} {s t u : State} (h : MovesOnly src dst s t)
    (h' : MovesOnly src' dst' t u) : MovesOnly (fun z => src z ∨ src' z) (fun z => dst z ∨ dst' z) s u where
  zone z := by
    rcases h.zone z with e | ⟨e, m⟩ | ⟨e, m⟩
    · rcases h'.zone z with e' | ⟨e', m⟩ | ⟨e', m⟩
      · exact .inl (e'.trans e)
      · exact .inr (.inl ⟨e ▸ e', .inr m⟩)
      · exact .inr (.inr ⟨e ▸ e', .inr m⟩)
    · exact .inr (.inl ⟨e, .inl m⟩)
    · exact .inr (.inr ⟨e, .inl m⟩)
  trt := h'.trt.trans h.trt
  obk := h'.obk.trans h.obk
  cku := h'.cku.trans h.cku
  sdu := h'.sdu.trans h.sdu
  lsv := h'.lsv.trans h.lsv

theorem MovesOnly.modZnc {src dst : Zone → Prop} {s t : State} (h : MovesOnly src dst s t) (f : ZoneUnit → ZoneUnit)
    (hf : ∀ k, (f k).zones = k.zones) : MovesOnly src dst s (t.modZnc f) where
  zone z := by
    have : (t.modZnc f).zone z = t.zone z := by simp [State.zone, State.modZnc, hf]
    rw [this]; exact h.zone z
  trt := h.trt
  obk := h.obk
  cku := h.cku
  sdu := h.sdu
  lsv := h.lsv

theorem MovesOnly.modWrapper {src dst : Zone → Prop} {s t : State} (h : MovesOnly src dst s t) (w : Wrapper)
    (f : WrapperRecord → WrapperRecord) : MovesOnly src dst s (t.modWrapper w f) :=
  ⟨h.zone, h.trt, h.obk, h.cku, h.sdu, h.lsv⟩

/-! ### The choices -/

theorem movesOnly_split (s : State) : MovesOnly (· = .feed) (fun z => ∃ w, z = .wrap w) s s.split := by
  have one : ∀ n w, s.candidate .feed (·.state == .accepted) = some n → s.qualifies w = true →
      MovesOnly (· = .feed) (fun z => ∃ w, z = .wrap w) s
        (((s.startMove .feed (.wrap w) n).modZnc fun u => { u with splitter := w }).loadingBegun w n) := by
    intro n w hc hq
    simp only [qualifies, isFree, Bool.and_eq_true, beq_iff_eq] at hq
    have base : MovesOnly (· = .feed) (fun z => ∃ w, z = .wrap w) s (s.startMove .feed (.wrap w) n) :=
      (movesOnly_startMove (by simp) (occupant_occupied (candidate_eq_some.mp hc).1) hq.2).mono
        (fun _ h => h) (fun _ h => ⟨w, h⟩)
    exact (base.modZnc (fun u => { u with splitter := w }) fun _ => rfl).modWrapper w _
  unfold split
  split
  · exact .refl _ _ _
  · rename_i n hc
    by_cases h1 : s.qualifies s.znc.splitter.other = true
    · simp only [h1, if_true]; exact one n _ hc h1
    · by_cases h2 : s.qualifies s.znc.splitter = true
      · simp only [h1, h2]; exact one n _ hc h2
      · simp only [h1, h2]; exact .refl _ _ _

theorem movesOnly_discharge (w : Wrapper) (s : State) :
    MovesOnly (· = .wrap w) (· = .out w) s (s.discharge w) := by
  unfold discharge
  split
  · rename_i n _
    split
    · rename_i h
      simp only [isFree, Bool.and_eq_true, beq_iff_eq] at h
      exact (movesOnly_startMove (by simp) (occupant_occupied h.1.2) h.2).modWrapper _ _
    · exact .refl _ _ _
  · exact .refl _ _ _

theorem outfeedReady_occupied {s : State} {w : Wrapper} {a : TrackNo × Nat} (h : s.outfeedReady w = some a) :
    (s.zone (.out w)).state = .occupied := by
  unfold outfeedReady at h
  split at h
  · rename_i n hc; exact occupant_occupied (candidate_eq_some.mp hc).1
  · cases h

theorem movesOnly_grantMerge (s : State) :
    MovesOnly (fun z => ∃ w, z = .out w) (· = .merge) s s.grantMerge := by
  have one : ∀ n w (a : TrackNo × Nat), s.outfeedReady w = some a → s.isFree .merge = true →
      MovesOnly (fun z => ∃ w, z = .out w) (· = .merge) s (s.startMove (.out w) .merge n) := by
    intro n w a h hf
    exact (movesOnly_startMove (by simp) (outfeedReady_occupied h) (by simpa [isFree] using hf)).mono
      (fun _ h => ⟨w, h⟩) (fun _ h => h)
  unfold grantMerge
  split
  · rename_i hf
    split
    · rename_i h1 h2; split
      · exact one _ _ _ h1 hf
      · exact one _ _ _ h2 hf
    · rename_i h1 _; exact one _ _ _ h1 hf
    · rename_i _ h2; exact one _ _ _ h2 hf
    · exact .refl _ _ _
  · exact .refl _ _ _

theorem movesOnly_grantSpur (s : State) :
    MovesOnly (fun z => z = .div2 ∨ z = .div1) (· = .sp 0) s s.grantSpur :=
  ((movesOnly_tryMove (by simp) _ _).trans (movesOnly_tryMove (by simp) _ _)).mono
    (fun _ h => h) (fun _ h => h.elim id id)

theorem movesOnly_moveToSort (s : State) : MovesOnly (· = .div2) (· = .sort) s s.moveToSort := by
  unfold moveToSort
  split
  · exact .refl _ _ _
  · rename_i n hc
    split
    · split
      · rename_i h
        simp only [isFree, Bool.and_eq_true, beq_iff_eq] at h
        exact (movesOnly_startMove (by simp) (occupant_occupied (candidate_eq_some.mp hc).1) h.1).modZnc _ fun _ => rfl
      · exact .refl _ _ _
    · exact .refl _ _ _

theorem movesOnly_moveToGate (s : State) : MovesOnly (· = .sort) (fun z => ∃ g, z = .gate g) s s.moveToGate := by
  unfold moveToGate
  split
  · rename_i g n _ hc
    split
    · rename_i h
      have base : MovesOnly (· = .sort) (fun z => ∃ g, z = .gate g) s (s.startMove .sort (.gate g) n) :=
        (movesOnly_startMove (by simp) (occupant_occupied (candidate_eq_some.mp hc).1)
          (by simpa [isFree] using h)).mono (fun _ h => h) (fun _ h => ⟨g, h⟩)
      exact base.modZnc (fun u => { u with route := none }) fun _ => rfl
    · exact .refl _ _ _
  · exact .refl _ _ _

/-! ### All of them -/

theorem zone_settle (s : State) (z : Zone) : s.settle.zone z = s.startMoves.zone z := by
  simp [settle, testInfeed, State.zone]

/-- At the end of an event a zone is as it was, or LEAVING where it was OCCUPIED, or RESERVED where it was FREE. -/
theorem movesOnly_startMoves (s : State) : MovesOnly (fun _ => True) (fun _ => True) s s.startMoves := by
  have row {src dst : Zone} (h : src ≠ dst) (ok : Pallet → Bool) (u : State) :
      MovesOnly (fun _ => True) (fun _ => True) u (u.tryMove src dst ok) :=
    (movesOnly_tryMove h ok u).mono (fun _ _ => trivial) (fun _ _ => trivial)
  have all {src dst : Zone → Prop} {u v : State} (h : MovesOnly src dst u v) :
      MovesOnly (fun _ => True) (fun _ => True) u v := h.mono (fun _ _ => trivial) (fun _ _ => trivial)
  have next {u v w : State} (h : MovesOnly (fun _ => True) (fun _ => True) u v)
      (h' : MovesOnly (fun _ => True) (fun _ => True) v w) : MovesOnly (fun _ => True) (fun _ => True) u w :=
    all (h.trans h')
  unfold startMoves
  refine next (next (next (next (next (next (next (next (next (next (next (next (next (next
    (row (by simp) _ s) (row (by simp) _ _)) (row (by simp) _ _)) (all (movesOnly_split _)))
    (all (movesOnly_discharge .a _))) (all (movesOnly_discharge .b _))) (all (movesOnly_grantMerge _)))
    (row (by simp) _ _)) (row (by simp) _ _)) (all (movesOnly_moveToSort _))) (all (movesOnly_grantSpur _)))
    (all (movesOnly_moveToGate _))) (row (by simp) _ _)) (row (by simp) _ _)) (row (by simp) _ _)

end Sys2Proof.Machine.State
end

