-- ==== Sys2Proof/Laws/Ops.lean ====
section
/-! SUPPORT. What each shared operation on the records, the notices and the reply path does, said once. -/

namespace Sys2Proof.Machine.State

/-! ### The reply path -/

/-- A reply changes the link only. -/
@[simp] theorem replied_frame (s : State) (tag kind : Byte) (st : Status) (data : List Byte) :
    (s.replied tag kind st data).trt = s.trt ∧ (s.replied tag kind st data).obk = s.obk ∧
    (s.replied tag kind st data).cku = s.cku ∧ (s.replied tag kind st data).znc = s.znc ∧
    (s.replied tag kind st data).wsq = s.wsq ∧ (s.replied tag kind st data).lbu = s.lbu ∧
    (s.replied tag kind st data).lnu = s.lnu ∧ (s.replied tag kind st data).sdu = s.sdu ∧
    (s.replied tag kind st data).lsv = s.lsv ∧ (s.replied tag kind st data).pins = s.pins ∧
    (s.replied tag kind st data).ports = s.ports ∧ (s.replied tag kind st data).freeCount = s.freeCount ∧
    (s.replied tag kind st data).pending = s.pending := by
  unfold replied; simp

/-- A reply takes no notice out of the queue: the transmitter, if idle, takes a reply. -/
@[simp] theorem replied_notices (s : State) (tag kind : Byte) (st : Status) (data : List Byte) :
    (s.replied tag kind st data).lku.notices = s.lku.notices := by
  unfold replied pump place
  split
  · rfl
  · cases h : s.lku.replies <;> simp [Link.choose, h]

/-! ### Notices -/

/-- With room in the queue a notice is placed at its end, stamped, with the gap mark. -/
theorem notify_notices {s : State} (h : s.lku.notices.length < 32) (e : Event) :
    (s.notify e).lku.notices = s.lku.notices ++ [⟨e, s.now, s.lku.gap⟩] := by
  simp [notify, Config.noticeCapacity, h]

/-- A full queue discards the notice. -/
theorem notify_full {s : State} (h : 32 ≤ s.lku.notices.length) (e : Event) :
    (s.notify e).lku.notices = s.lku.notices := by
  simp [notify, Config.noticeCapacity, Nat.not_lt.mpr h]

/-- A notice leaves the rest of the link as it was. -/
@[simp] theorem notify_link (e : Event) (s : State) :
    (s.notify e).lku.replies = s.lku.replies ∧ (s.notify e).lku.queries = s.lku.queries ∧
    (s.notify e).lku.sending = s.lku.sending ∧ (s.notify e).lku.buffer = s.lku.buffer ∧
    (s.notify e).lku.receiver = s.lku.receiver ∧ (s.notify e).lku.job = s.lku.job := by
  by_cases h : s.lku.notices.length < Config.noticeCapacity <;> simp [notify, h]

@[simp] theorem pallet_notify (e : Event) (s : State) (n : TrackNo) : (s.notify e).pallet n = s.pallet n :=
  pallet_congr (by simp) n

/-! ### Records -/

/-- Entering a state: the record as it was with that state. -/
theorem pallet_enter {n : TrackNo} {p : Pallet} {s : State} (h : s.pallet n = some p) (st : PalletState)
    (event : PalletEvent) (m : TrackNo) :
    (s.enter n st event).pallet m = if m = n then some { p with state := st } else s.pallet m := by
  simp [enter, h]

/-- A record gives back its place in the order and keeps all else. -/
theorem pallet_releaseAssignment {n : TrackNo} {p : Pallet} {s : State} (h : s.pallet n = some p) (m : TrackNo) :
    (s.releaseAssignment n).pallet m = if m = n then some { p with assignment := none } else s.pallet m := by
  have same (number : Nat) (f : Order → Order) (k : TrackNo) : (s.modOrder number f).pallet k = s.pallet k :=
    pallet_congr (by simp) k
  cases ha : p.assignment with
  | none =>
    have hs : s.releaseAssignment n = s := by simp [releaseAssignment, h, ha]
    rw [hs]
    by_cases hm : m = n
    · subst hm; rw [if_pos rfl, h]; cases p; cases ha; rfl
    · rw [if_neg hm]
  | some a => by_cases hm : m = n <;> simp [releaseAssignment, h, ha, hm, same]

@[simp] theorem releaseAssignment_offLine (n : TrackNo) (s : State) :
    (s.releaseAssignment n).trt.offLine = s.trt.offLine := by
  unfold releaseAssignment
  repeat' first | simp [modPallet] | split

/-- A record leaves the track: its number is free. -/
@[simp] theorem retire_trt (n : TrackNo) (s : State) :
    (s.retire n).trt = { s.trt with pallets := s.trt.pallets.set n none } := by
  unfold retire
  simp [apply_ite State.trt]

theorem pallet_retire (n m : TrackNo) (s : State) :
    (s.retire n).pallet m = if m = n then none else s.pallet m := by
  rw [← pallet_putPallet n m none s]
  exact pallet_congr (by simp) m

/-- Withdrawing queries leaves the other frames of the link as they were. -/
theorem withdrawAll_link (l : List Waiters) (s : State) :
    (l.foldl (fun s w => s.withdrawProfile w.product) s).lku.notices = s.lku.notices ∧
    (l.foldl (fun s w => s.withdrawProfile w.product) s).lku.replies = s.lku.replies ∧
    (l.foldl (fun s w => s.withdrawProfile w.product) s).lku.sending = s.lku.sending ∧
    (l.foldl (fun s w => s.withdrawProfile w.product) s).lku.gap = s.lku.gap := by
  induction l generalizing s with
  | nil => exact ⟨rfl, rfl, rfl, rfl⟩
  | cons w l ih => exact ih (s.withdrawProfile w.product)

/-- Retiring a record withdraws queries and leaves the other frames of the link as they were. -/
@[simp] theorem retire_link (n : TrackNo) (s : State) :
    (s.retire n).lku.notices = s.lku.notices ∧ (s.retire n).lku.replies = s.lku.replies ∧
    (s.retire n).lku.sending = s.lku.sending ∧ (s.retire n).lku.gap = s.lku.gap := by
  unfold retire
  simp [apply_ite State.lku, stopWaiting, withdrawAll_link, withdraw]

theorem pallet_addReasonTo {n : TrackNo} {p : Pallet} {s : State} (h : s.pallet n = some p) (r : Reason)
    (m : TrackNo) :
    (s.addReasonTo n r).pallet m =
      if m = n then some { p with reasons := addReason r p.reasons } else s.pallet m := by
  by_cases hm : m = n <;> simp [addReasonTo, h, hm]

/-- The reasons of a record that is rejected: the one given, and REWORK_LIMIT at three attempts (R14). -/
def rejectReasons (reason : Option Reason) (p : Pallet) : List Reason :=
  let rs := match reason with
    | some r => addReason r p.reasons
    | none => p.reasons
  if p.attempts = Config.attemptLimit then addReason .reworkLimit rs else rs

/-- A rejected record: REJECTED, without assignment, with its reasons; the other records as they were. -/
theorem pallet_reject {n : TrackNo} {p : Pallet} {s : State} (h : s.pallet n = some p) (reason : Option Reason)
    (m : TrackNo) :
    (s.reject n reason).pallet m = if m = n
      then some { p with state := .rejected, assignment := none, reasons := rejectReasons reason p }
      else s.pallet m := by
  have after : ∀ (u : State) (q : Pallet), u.pallet n = some q →
      (match (u.releaseAssignment n).pallet n with
        | some p => if p.attempts = Config.attemptLimit
          then (u.releaseAssignment n).addReasonTo n .reworkLimit else u.releaseAssignment n
        | none => u.releaseAssignment n).pallet =
      fun k => if k = n then some { q with assignment := none, reasons := rejectReasons none q } else u.pallet k := by
    intro u q hq
    have h0 := pallet_releaseAssignment hq n
    rw [if_pos rfl] at h0
    funext k
    rw [h0]
    by_cases hl : q.attempts = Config.attemptLimit
    · simp only [hl, if_true]
      rw [pallet_addReasonTo h0, pallet_releaseAssignment hq]
      by_cases hk : k = n <;> simp [hk, rejectReasons, hl]
    · simp only [hl, if_false]
      rw [pallet_releaseAssignment hq]
      by_cases hk : k = n <;> simp [hk, rejectReasons, hl]
  cases reason with
  | none =>
    have hu := after s p h
    refine (pallet_enter (p := { p with assignment := none, reasons := rejectReasons none p })
      ((congrFun hu n).trans (if_pos rfl)) .rejected .rejected m).trans ?_
    by_cases hm : m = n
    · rw [if_pos hm, if_pos hm]
    · rw [if_neg hm, if_neg hm]; exact (congrFun hu m).trans (if_neg hm)
  | some r =>
    have hr := pallet_addReasonTo h r n
    rw [if_pos rfl] at hr
    have hu := after _ _ hr
    refine (pallet_enter (p := { p with assignment := none, reasons := rejectReasons (some r) p })
      ((congrFun hu n).trans (if_pos rfl)) .rejected .rejected m).trans ?_
    by_cases hm : m = n
    · rw [if_pos hm, if_pos hm]
    · rw [if_neg hm, if_neg hm]
      exact (congrFun hu m).trans ((if_neg hm).trans ((pallet_addReasonTo h r m).trans (if_neg hm)))

/-! ### A change of the label unit -/

/-- The operations on records read nothing of the label unit, so a change of it may be made before them or after. -/
theorem modPallet_modLbu (f : LabelUnit → LabelUnit) (n : TrackNo) (g : Pallet → Pallet) (s : State) :
    (s.modLbu f).modPallet n g = (s.modPallet n g).modLbu f := by
  unfold modPallet
  show (match s.pallet n with | some p => _ | none => _) = _
  cases s.pallet n <;> rfl

theorem notify_modLbu (f : LabelUnit → LabelUnit) (e : Event) (s : State) :
    (s.modLbu f).notify e = (s.notify e).modLbu f := by
  unfold notify
  show (if s.lku.notices.length < _ then _ else _) = _
  split <;> rfl

theorem releaseAssignment_modLbu (f : LabelUnit → LabelUnit) (n : TrackNo) (s : State) :
    (s.modLbu f).releaseAssignment n = (s.releaseAssignment n).modLbu f := by
  unfold releaseAssignment
  show (match s.pallet n with | some p => _ | none => _) = _
  cases s.pallet n with
  | none => rfl
  | some p =>
    cases ha : p.assignment with
    | none => simp only [ha]
    | some a => simp only [ha]; rw [← modPallet_modLbu]; rfl

theorem enter_modLbu (f : LabelUnit → LabelUnit) (n : TrackNo) (st : PalletState) (event : PalletEvent) (s : State) :
    (s.modLbu f).enter n st event = (s.enter n st event).modLbu f := by
  unfold enter
  show (match s.pallet n with | some p => _ | none => _) = _
  cases s.pallet n with
  | none => rfl
  | some p => exact notify_modLbu f _ (s.putPallet n (some { p with state := st }))

theorem reject_modLbu (f : LabelUnit → LabelUnit) (n : TrackNo) (reason : Option Reason) (s : State) :
    (s.modLbu f).reject n reason = (s.reject n reason).modLbu f := by
  have limit : ∀ u : State, ((match (u.modLbu f).pallet n with
      | some p => if p.attempts = Config.attemptLimit then (u.modLbu f).addReasonTo n .reworkLimit else u.modLbu f
      | none => u.modLbu f).enter n .rejected .rejected) = ((match u.pallet n with
      | some p => if p.attempts = Config.attemptLimit then u.addReasonTo n .reworkLimit else u
      | none => u).enter n .rejected .rejected).modLbu f := by
    intro u
    rw [← enter_modLbu]
    show (match u.pallet n with | some p => _ | none => _ : State).enter _ _ _ = _
    cases u.pallet n with
    | none => rfl
    | some p =>
      dsimp only
      split
      · rw [addReasonTo, modPallet_modLbu]; rfl
      · rfl
  unfold reject
  cases reason with
  | none => dsimp only; rw [releaseAssignment_modLbu]; exact limit _
  | some r => dsimp only; rw [addReasonTo, modPallet_modLbu, releaseAssignment_modLbu]; exact limit _

/-! ### Every zone, every lane -/

theorem zone_mem_all (z : Zone) : z ∈ Zone.all := List.mem_of_getElem? (Zone.all_getElem_idx z)

theorem zone_all_nodup : Zone.all.Nodup := by decide

theorem lane_mem_all (n : Lane) : n ∈ Lane.all := by revert n; decide

theorem lane_all_nodup : Lane.all.Nodup := by decide

/-- One change made to each zone of a list changes each of them once. -/
theorem zone_foldl_modZone (l : List Zone) (hl : l.Nodup) (f : ZoneRecord → ZoneRecord) (s : State) (z : Zone) :
    (l.foldl (fun s y => s.modZone y f) s).zone z = if z ∈ l then f (s.zone z) else s.zone z := by
  induction l generalizing s with
  | nil => simp
  | cons a l ih =>
    rw [List.nodup_cons] at hl
    rw [List.foldl_cons, ih hl.2]
    by_cases h : z = a
    · subst h; simp [hl.1]
    · simp [h]

/-- One change made to each lane of a list changes each of them once. -/
theorem lane_foldl_modLane (l : List Lane) (hl : l.Nodup) (f : LaneRecord → LaneRecord) (s : State) (n : Lane) :
    (l.foldl (fun s m => s.modLane m f) s).lane n = if n ∈ l then f (s.lane n) else s.lane n := by
  induction l generalizing s with
  | nil => simp
  | cons a l ih =>
    rw [List.nodup_cons] at hl
    rw [List.foldl_cons, ih hl.2]
    by_cases h : n = a
    · subst h; simp [hl.1]
    · simp [h]

end Sys2Proof.Machine.State
end

