-- ==== Sys2Proof/Laws/PerInstr.lean ====
section
/-! SUPPORT. The family `WordFree`: no word spells a command, by constructor (opcode_table.json gives no row bits). -/

namespace Sys2Proof.Laws.WordFree

/-- No word of any length is read as this command. -/
def Statement (i : Instr) : Prop := ∀ nbits w : Nat, decodeTableWord nbits w ≠ some i

theorem all (i : Instr) : Statement i := fun _ _ => nofun

theorem status (tag : Byte) (body : List Byte) : Statement (.status tag body) := all _
theorem readPallet (tag : Byte) (body : List Byte) : Statement (.readPallet tag body) := all _
theorem listTrack (tag : Byte) (body : List Byte) : Statement (.listTrack tag body) := all _
theorem readOrder (tag : Byte) (body : List Byte) : Statement (.readOrder tag body) := all _
theorem listOrders (tag : Byte) (body : List Byte) : Statement (.listOrders tag body) := all _
theorem readDispatchList (tag : Byte) (body : List Byte) : Statement (.readDispatchList tag body) := all _
theorem readProfile (tag : Byte) (body : List Byte) : Statement (.readProfile tag body) := all _
theorem readRecipe (tag : Byte) (body : List Byte) : Statement (.readRecipe tag body) := all _
theorem readLanes (tag : Byte) (body : List Byte) : Statement (.readLanes tag body) := all _
theorem readZones (tag : Byte) (body : List Byte) : Statement (.readZones tag body) := all _
theorem readWrappers (tag : Byte) (body : List Byte) : Statement (.readWrappers tag body) := all _
theorem readSettings (tag : Byte) (body : List Byte) : Statement (.readSettings tag body) := all _
theorem newOrder (tag : Byte) (body : List Byte) : Statement (.newOrder tag body) := all _
theorem cancelOrder (tag : Byte) (body : List Byte) : Statement (.cancelOrder tag body) := all _
theorem closeOrder (tag : Byte) (body : List Byte) : Statement (.closeOrder tag body) := all _
theorem authoriseRelease (tag : Byte) (body : List Byte) : Statement (.authoriseRelease tag body) := all _
theorem bindLane (tag : Byte) (body : List Byte) : Statement (.bindLane tag body) := all _
theorem unbindLane (tag : Byte) (body : List Byte) : Statement (.unbindLane tag body) := all _
theorem pauseLane (tag : Byte) (body : List Byte) : Statement (.pauseLane tag body) := all _
theorem resumeLane (tag : Byte) (body : List Byte) : Statement (.resumeLane tag body) := all _
theorem extendCutOff (tag : Byte) (body : List Byte) : Statement (.extendCutOff tag body) := all _
theorem decideHold (tag : Byte) (body : List Byte) : Statement (.decideHold tag body) := all _
theorem supplyProfile (tag : Byte) (body : List Byte) : Statement (.supplyProfile tag body) := all _
theorem removePallet (tag : Byte) (body : List Byte) : Statement (.removePallet tag body) := all _
theorem returnPallet (tag : Byte) (body : List Byte) : Statement (.returnPallet tag body) := all _
theorem clearZone (tag : Byte) (body : List Byte) : Statement (.clearZone tag body) := all _
theorem confirmZone (tag : Byte) (body : List Byte) : Statement (.confirmZone tag body) := all _
theorem restartLine (tag : Byte) (body : List Byte) : Statement (.restartLine tag body) := all _
theorem restoreWrapper (tag : Byte) (body : List Byte) : Statement (.restoreWrapper tag body) := all _
theorem wrapperOffline (tag : Byte) (body : List Byte) : Statement (.wrapperOffline tag body) := all _
theorem wrapperOnline (tag : Byte) (body : List Byte) : Statement (.wrapperOnline tag body) := all _
theorem filmLoaded (tag : Byte) (body : List Byte) : Statement (.filmLoaded tag body) := all _
theorem restartWrap (tag : Byte) (body : List Byte) : Statement (.restartWrap tag body) := all _
theorem releaseUnwrapped (tag : Byte) (body : List Byte) : Statement (.releaseUnwrapped tag body) := all _
theorem restoreLabeller (tag : Byte) (body : List Byte) : Statement (.restoreLabeller tag body) := all _
theorem inhibitHeads (tag : Byte) (body : List Byte) : Statement (.inhibitHeads tag body) := all _
theorem setClock (tag : Byte) (body : List Byte) : Statement (.setClock tag body) := all _
theorem defineProfile (tag : Byte) (body : List Byte) : Statement (.defineProfile tag body) := all _
theorem deleteProfile (tag : Byte) (body : List Byte) : Statement (.deleteProfile tag body) := all _
theorem defineRecipe (tag : Byte) (body : List Byte) : Statement (.defineRecipe tag body) := all _
theorem deleteRecipe (tag : Byte) (body : List Byte) : Statement (.deleteRecipe tag body) := all _
theorem setTiming (tag : Byte) (body : List Byte) : Statement (.setTiming tag body) := all _
theorem setSite (tag : Byte) (body : List Byte) : Statement (.setSite tag body) := all _
theorem recoverSerials (tag : Byte) (body : List Byte) : Statement (.recoverSerials tag body) := all _
theorem resetController (tag : Byte) (body : List Byte) : Statement (.resetController tag body) := all _
theorem unknownRequestKind (kind tag : Byte) (body : List Byte) : Statement (.unknownRequestKind kind tag body) := all _
theorem frameCheckFailed : Statement .frameCheckFailed := all _
theorem receiveOverrun : Statement .receiveOverrun := all _
theorem byteGapTimeout : Statement .byteGapTimeout := all _
theorem heldFrameTaken : Statement .heldFrameTaken := all _
theorem frameSent : Statement .frameSent := all _
theorem resetRequest : Statement .resetRequest := all _
theorem powerOn : Statement .powerOn := all _
theorem resetInput : Statement .resetInput := all _
theorem startUpEnd : Statement .startUpEnd := all _
theorem eyeMade (z : Zone) : Statement (.eyeMade z) := all _
theorem eyeCleared (z : Zone) : Statement (.eyeCleared z) := all _
theorem tagRead (read : Option TagFields) : Statement (.tagRead read) := all _
theorem tagTimerExpiry : Statement .tagTimerExpiry := all _
theorem weightReading (weight : Int) (stable : Bool) : Statement (.weightReading weight stable) := all _
theorem weightTimerExpiry : Statement .weightTimerExpiry := all _
theorem frameBegin : Statement .frameBegin := all _
theorem scanRow (row : Nat) (cells : List Word16) : Statement (.scanRow row cells) := all _
theorem frameEnd : Statement .frameEnd := all _
theorem scanTimerExpiry : Statement .scanTimerExpiry := all _
theorem holdTimerExpiry : Statement .holdTimerExpiry := all _
theorem moveTimerExpiry (source : Zone) : Statement (.moveTimerExpiry source) := all _
theorem departureTimeout (n : Lane) : Statement (.departureTimeout n) := all _
theorem laneWaitTimerExpiry : Statement .laneWaitTimerExpiry := all _
theorem minuteTimerExpiry (n : Lane) : Statement (.minuteTimerExpiry n) := all _
theorem truckPresentChange (n : Lane) (active : Bool) : Statement (.truckPresentChange n active) := all _
theorem keySwitchChange (run setup service : Bool) : Statement (.keySwitchChange run setup service) := all _
theorem chainOpens : Statement .chainOpens := all _
theorem chainCloses : Statement .chainCloses := all _
theorem stationAccepted (w : Wrapper) (number : Byte) : Statement (.stationAccepted w number) := all _
theorem stationDone (w : Wrapper) (number : Byte) : Statement (.stationDone w number) := all _
theorem stationFilmBreak (w : Wrapper) (number : Byte) : Statement (.stationFilmBreak w number) := all _
theorem stationFault (w : Wrapper) (number : Byte) : Statement (.stationFault w number) := all _
theorem stationStatusReport (w : Wrapper) (number : Byte) (healthy loaded : Bool) :
    Statement (.stationStatusReport w number healthy loaded) := all _
theorem acceptanceTimerExpiry (w : Wrapper) : Statement (.acceptanceTimerExpiry w) := all _
theorem passTimerExpiry (w : Wrapper) : Statement (.passTimerExpiry w) := all _
theorem headApplied (f : Face) : Statement (.headApplied f) := all _
theorem headFault (f : Face) : Statement (.headFault f) := all _
theorem applyTimerExpiry (f : Face) : Statement (.applyTimerExpiry f) := all _
theorem readerText (f : Face) (text : Text) : Statement (.readerText f text) := all _
theorem readerNoRead (f : Face) : Statement (.readerNoRead f) := all _
theorem readTimerExpiry : Statement .readTimerExpiry := all _
theorem storeWriteReport (report : StoreReport) : Statement (.storeWriteReport report) := all _
theorem writeTimerExpiry : Statement .writeTimerExpiry := all _
theorem clockTick : Statement .clockTick := all _
theorem powerLoss : Statement .powerLoss := all _
theorem resetInputReleased : Statement .resetInputReleased := all _
theorem linkByteReceived (byte : Byte) (framingError : Bool) : Statement (.linkByteReceived byte framingError) := all _

end Sys2Proof.Laws.WordFree
end

