-- ==== Sys2Proof/Laws/Requests.lean ====
section
/-! SUPPORT. The taking of a request: one lemma per outcome of the arrival of its good frame, and what a request's taking
leaves alone. -/

namespace Sys2Proof.Machine

namespace State

theorem event_of (f : State → State) {s : State} (h : s.inReset = false) : s.event f = (f s).pump := by
  simp [event, h]

theorem event_in_reset (f : State → State) {s : State} (h : s.inReset = true) : s.event f = s := by
  simp [event, h]

theorem arrival_of (f : State → State) {s : State} (h : s.inReset = false) (h' : s.taking = true) :
    s.arrival f = (f s).pump := by
  simp [arrival, h, h']

theorem arrival_not_taken (f : State → State) {s : State} (h : s.inReset = true ∨ s.taking = false) :
    s.arrival f = s := by
  rcases h with h | h <;> simp [arrival, h]

/-- A request that is heard goes to its owner, whose answer is placed. -/
theorem receive_of_hears {s : State} {r : Request} (h : s.hears r = true) (tag : Byte) (body : List Byte) :
    s.receive r tag body = (answer r.kind tag (r.handle tag body s)).pump := by
  simp only [hears, Bool.and_eq_true, Bool.not_eq_true', decide_eq_true_eq, Option.isNone_iff_eq_none] at h
  obtain ⟨⟨⟨⟨⟨h1, h2⟩, h3⟩, h4⟩, h5⟩, h6⟩ := h
  have h2' : s.lsv.line ≠ .powerUp := by simpa [taking] using h2
  simp [receive, event, h1, goodFrame, h3, h4, h5, takeRequest, h2', h6]

/-- In POWER_UP every request is BUSY. -/
theorem receive_of_powerUp {s : State} {r : Request} (h : s.inReset = false) (hp : s.lsv.line = .powerUp)
    (hr : s.lsv.resetPending = false) (hb : s.lku.buffer = none) (hc : s.replyCount < 8) (tag : Byte)
    (body : List Byte) : s.receive r tag body = s.replied tag r.kind .busy [] := by
  simp [receive, event, h, goodFrame, hr, hb, hc, Config.replyLimit, takeRequest, hp, replied]

/-- A class not admitted is NOT_PERMITTED. -/
theorem receive_not_admitted {s : State} {r : Request} (h : s.inReset = false) (hp : s.taking = true)
    (hr : s.lsv.resetPending = false) (hb : s.lku.buffer = none) (hc : s.replyCount < 8)
    (ha : r.cls.admitted s.lsv.key = false) (tag : Byte) (body : List Byte) :
    s.receive r tag body = s.replied tag r.kind .notPermitted [] := by
  have hp' : s.lsv.line ≠ .powerUp := by simpa [taking] using hp
  simp [receive, event, h, goodFrame, hr, hb, hc, Config.replyLimit, takeRequest, hp', ha, replied]

/-- A frame that completes with a reset pending is discarded. -/
theorem receive_reset_pending {s : State} {r : Request} (h : s.inReset = false) (hr : s.lsv.resetPending = true)
    (tag : Byte) (body : List Byte) : s.receive r tag body = s.pump := by
  simp [receive, event, h, goodFrame, hr]

/-- A frame that completes while one is held is counted. -/
theorem receive_overrun {s : State} {r : Request} (h : s.inReset = false) (hr : s.lsv.resetPending = false)
    (hb : s.lku.buffer.isSome = true) (tag : Byte) (body : List Byte) :
    s.receive r tag body = s.countError.pump := by
  simp [receive, event, h, goodFrame, hr, hb]

/-- A frame that completes with 8 replies waiting or owed is held. -/
theorem receive_held {s : State} {r : Request} (h : s.inReset = false) (hr : s.lsv.resetPending = false)
    (hb : s.lku.buffer = none) (hc : 8 ≤ s.replyCount) (tag : Byte) (body : List Byte) :
    s.receive r tag body = (s.modLku fun l => { l with buffer := some ⟨r.kind, tag, body⟩ }).pump := by
  simp [receive, event, h, goodFrame, hr, hb, Config.replyLimit, Nat.not_lt.mpr hc]

@[simp] theorem answer_now (kind tag : Byte) (s : State) (st : Status) (data : List Byte) :
    answer kind tag (s, .now st data) = s.place (.reply tag kind st data) := rfl

@[simp] theorem answer_owed (kind tag : Byte) (s : State) : answer kind tag (s, .owed) = s := rfl

@[simp] theorem place_pump (s : State) (tag kind : Byte) (st : Status) (data : List Byte) :
    (s.place (.reply tag kind st data)).pump = s.replied tag kind st data := rfl

/-- A request that is heard and answered at once: its owner's state, with the reply placed. -/
theorem heard {s u : State} {r : Request} {tag : Byte} {body : List Byte} {st : Status} {data : List Byte}
    (h : s.hears r = true) (hh : r.handle tag body s = (u, .now st data)) :
    s.receive r tag body = u.replied tag r.kind st data := by
  rw [receive_of_hears h, hh, answer_now, place_pump]

/-- Requests of one class are heard together. -/
theorem hears_of_class {s : State} {r q : Request} (h : s.hears r = true) (hc : q.cls = r.cls) :
    s.hears q = true := by
  rw [← h, hears, hears, hc]

end State

@[simp] theorem withArgs_ok {α : Type} (a : α) (act : α → State → State × Response) (s : State) :
    withArgs (.ok a) act s = act a s := rfl

@[simp] theorem withArgs_error {α : Type} (st : Status) (act : α → State → State × Response) (s : State) :
    withArgs (.error st) act s = (s, .now st []) := rfl

@[simp] theorem refuse_eq (st : Status) (s : State) : refuse st s = (s, .now st []) := rfl

@[simp] theorem okay_eq (data : List Byte) (s : State) : okay data s = (s, .now .ok data) := rfl

/-- What a request's owner leaves alone, its taking leaves alone, when it is no part of the link. -/
theorem receive_keeps {α : Type} (b : State → α) (hl : ∀ f s, b (State.modLku f s) = b s) {r : Request}
    (h : ∀ tag body s, b (r.handle tag body s).1 = b s) (tag : Byte) (body : List Byte) (s : State) :
    b (s.receive r tag body) = b s := by
  have hpump : ∀ s : State, b s.pump = b s := by
    intro s; unfold State.pump; split
    · rfl
    · exact hl _ _
  have hanswer : ∀ (k t : Byte) (x : State × Response), b (State.answer k t x) = b x.1 := by
    rintro k t ⟨s, r⟩
    cases r with
    | now st data => rw [State.answer_now, State.place]; exact hl _ _
    | owed => rfl
  unfold State.receive State.event
  split
  · rfl
  · rw [hpump]
    unfold State.goodFrame State.countError
    split
    · rfl
    · split
      · exact hl _ _
      · split
        · unfold State.takeRequest State.place
          split
          · exact hl _ _
          · split
            · exact hl _ _
            · rw [hanswer, h]
        · exact hl _ _

end Sys2Proof.Machine
end

