-- ==== Sys2Proof/Laws/Store.lean ====
section
/-! SUPPORT. The walks over the stored entries: what a change made to each entry of a table leaves, the notices made for a
list of entries. -/

namespace Sys2Proof.Machine

/-! ### Every slot, every recipe -/

theorem Slot.all_eq : Slot.all = List.finRange 64 := by decide +kernel

theorem Recipe.all_eq : Recipe.all = List.finRange 16 := by decide +kernel

theorem Slot.mem_all (i : Fin 64) : i ∈ Slot.all := by rw [Slot.all_eq]; exact List.mem_finRange i

theorem Recipe.mem_all (i : Fin 16) : i ∈ Recipe.all := by rw [Recipe.all_eq]; exact List.mem_finRange i

theorem Slot.all_nodup : Slot.all.Nodup := by rw [Slot.all_eq]; exact List.nodup_finRange 64

theorem Recipe.all_nodup : Recipe.all.Nodup := by rw [Recipe.all_eq]; exact List.nodup_finRange 16

/-- One change made to each listed place of a table changes each of them once. -/
theorem getElem_foldl_set {α : Type} {n : Nat} (f : Fin n → α → α) (l : List (Fin n)) (hl : l.Nodup) (v : Vector α n)
    (i : Fin n) :
    (l.foldl (fun (v : Vector α n) (i : Fin n) => v.set i (f i v[i])) v)[i] = if i ∈ l then f i v[i] else v[i] := by
  induction l generalizing v with
  | nil => simp
  | cons a l ih =>
    rw [List.nodup_cons] at hl
    rw [List.foldl_cons, ih hl.2]
    by_cases h : i = a
    · subst h; simp [hl.1]
    · have hv : a.val ≠ i.val := fun e => h (Fin.ext e.symm)
      simp [h, Vector.getElem_set_ne, hv]

theorem Entry.state_eq_damaged {α : Type} (e : Entry α) : e.state = .damaged ↔ e = .damaged := by
  cases e <;> simp [Entry.state]

/-- Verification of an entry that no marker names. -/
theorem Entry.verified_eq_asFound {α : Type} (e : Entry α) : e.verified = e.asFound false := by
  cases e with
  | empty b => cases b <;> rfl
  | valid a b => cases b <;> rfl
  | damaged => rfl

/-! ### Notices for a list of entries -/

namespace State

/-- The STORE notices DAMAGED of a list of entries: as many as the queue takes, the first with the gap mark; nothing else
of the link, the store or the supervisor changes. -/
theorem foldl_storeNotice_damaged (ids : List EntryId) (u : State) :
    let r := ids.foldl (fun s id => s.storeNotice .damaged id none) u
    r.lku.notices = u.lku.notices ++ (ids.mapIdx fun i id =>
      (⟨.store .damaged id (u.sdu.keyOf id) none 0 0, u.now, u.lku.gap && i == 0⟩ : Notice)).take
        (32 - u.lku.notices.length) ∧
    r.lku.replies = u.lku.replies ∧ r.lku.queries = u.lku.queries ∧ r.lku.sending = u.lku.sending ∧ r.lsv = u.lsv ∧
    r.sdu = u.sdu := by
  induction ids generalizing u with
  | nil => simp
  | cons a l ih =>
    intro r
    let e : Event := .store .damaged a (u.sdu.keyOf a) none 0 0
    obtain ⟨h1, h2, h3, h4, h5, h6⟩ := ih (u.notify e)
    refine ⟨h1.trans ?_, h2.trans (by simp), h3.trans (by simp), h4.trans (by simp), h5.trans (by simp),
      h6.trans (by simp)⟩
    by_cases hl : u.lku.notices.length < 32
    · have en := notify_notices hl e
      have eg : (u.notify e).lku.gap = false := by simp [notify, Config.noticeCapacity, hl]
      have enow : (u.notify e).now = u.now := by simp [now]
      have es : (u.notify e).sdu = u.sdu := by simp
      obtain ⟨k, hk⟩ : ∃ k, 32 - u.lku.notices.length = k + 1 := ⟨31 - u.lku.notices.length, by omega⟩
      have hk' : 32 - (u.lku.notices ++ [(⟨e, u.now, u.lku.gap⟩ : Notice)]).length = k := by simp; omega
      rw [en, eg, enow, es, hk', hk]
      simp [List.mapIdx_cons, e]
    · rw [notify_full (Nat.le_of_not_lt hl) e]
      simp [Nat.sub_eq_zero_of_le (Nat.le_of_not_lt hl)]

end State

end Sys2Proof.Machine
end

