-- ==== Sys2Proof/Tests/Slice0.lean ====
section
/-! SUPPORT. Tests of the model: well-formedness refusals, worked values of the spec, single commands on small states, and
for every statement a state and operands that meet its hypotheses. -/

open Sys2Proof Sys2Proof.Machine

namespace Sys2Proof.Tests

set_option Elab.async false

/-! ### Small states -/

/-- The line STOPPED after start-up, the key in RUN, both wrappers IDLE. -/
def stopped : State :=
  { State.reset with
    wsq := ⟨WrapperRecord.reset, WrapperRecord.reset⟩, ports := Ports.reset
    lsv := { State.reset.lsv with line := .stopped, key := .run } }

/-- The same line RUNNING. -/
def running : State := stopped.modLsv fun v => { v with line := .running }

/-- The same line STOPPED with the key in another position. -/
def keyIn (k : KeyPosition) : State := stopped.modLsv fun v => { v with key := k }

/-- A tag of product 7. -/
def tag7 : Tag := { product := 7, batch := [0x42], units := 10, order := none, bestBefore := 0 }

/-- A record just entered at IN with a tag of product 7. -/
def pallet7 : Pallet :=
  { tag := some tag7, state := .entering, location := none, attempts := 0, checkSeq := none, gross := none,
    profile := none, reasons := [], assignment := none, orphaned := false, plan := none, recipeMissing := false,
    wrapper := none, passesDone := 0, serial := none, faces := ⟨⟨.notDone, 0⟩, ⟨.notDone, 0⟩⟩, created := ⟨0, true⟩,
    verdictTime := none, labelledTime := none }

/-- The state with a record OCCUPIED in a zone, its eye made. -/
def withPallet (n : TrackNo) (z : Zone) (p : Pallet) (s : State) : State :=
  (s.putPallet n (some { p with location := some z })).putZone z
    { ZoneRecord.free with eye := true, state := .occupied, record := some n }

/-- Order 5: one pallet of product 7, OPEN. -/
def order5 : Order :=
  { number := 5, destination := [0x41], priority := 1, bonded := false, authority := none, creationSeq := 1,
    state := .isOpen, lane := none, lines := [⟨1, 7, 1, 0, 0⟩], dispatch := [], manifest := 0 }

/-- The state with an order in the book. -/
def withOrder (o : Order) (s : State) : State := s.modObk fun b => { b with orders := b.orders ++ [o] }

/-- A recipe of one bottom pass, 5 m of film a pass. -/
def recipe1 : Recipe := { prestretch := 200, bottom := 1, up := 0, sheet := false, top := 0, down := 0, film := 5 }

/-- The state with wrapper A holding a record WRAPPING by the recipe, a bottom pass in flight as command 1. -/
def wrapping (c : ChannelState) : State :=
  (withPallet 0 (.wrap .a) { pallet7 with state := .wrapping, plan := some recipe1 } running).putWrapper .a
    { WrapperRecord.reset with
      state := .wrapping, load := .track 0, film := 100
      channel := { Channel.reset with
        state := c, command := if c = .idle then none else some ⟨.bottom, 1⟩, last := 1,
        acceptance := c == .sent, pass := if c = .working then .running 90 else .stopped } }

/-- The state with wrapper A's channel with a status query in flight as command 1. -/
def queried (line : LineState) (owed : Option Byte) : State :=
  (stopped.modLsv fun v => { v with line := line }).putWrapper .a { WrapperRecord.startUp with
    state := .faulted, faultCause := some .noResponse, owed := owed }

/-- The state with a record LABELLING in LABEL, the faces at the steps given, its timers running. -/
def labelling (side fend : FaceStep) : State :=
  (withPallet 0 .label { pallet7 with state := .labelling, serial := some 0, faces := ⟨⟨.notDone, 1⟩, ⟨.notDone, 1⟩⟩ }
    running).modLbu fun l => { l with
      state := .cycle, track := some 0, steps := ⟨side, fend⟩
      applyTimers := ⟨if side = .applying then .running 10 else .stopped, if fend = .applying then .running 10 else .stopped⟩
      readTimer := if side = .reading ∨ fend = .reading then .running 3 else .stopped
      content := some { destination := [0x41], order := 5, product := 7, name := [], batch := [0x42], bestBefore := 0,
                        serial := serialText [0x41, 0x42, 0x43, 0x44] 0
                        readBack := readBackText (serialText [0x41, 0x42, 0x43, 0x44] 0) 5 } }

/-- A profile of product 7 with a flat grid of 1,000 mm. -/
def profile7 : Profile :=
  { product := 7, name := [0x41], fullUnits := 10, unitWeight := 100, tare := 200, tolerance := 50,
    grid := List.replicate 320 1000, windowStart := 0, overTolerance := 20, underTolerance := 20, overLimit := 5,
    underLimit := 5, highestAllowed := 1200, recipe := 0 }

/-- The state with the check of a record in SCAN under way. -/
def checking (weight : WeightCapture) (frame : FrameCapture) (snapshot : Option Profile) : State :=
  (withPallet 0 .scan { pallet7 with state := .checking, attempts := 1 } running).modCku fun c => { c with
    state := .capturing, track := some 0, weight := weight, frame := frame, snapshot := snapshot
    weightTimer := if weight = .armed then .running 8 else .stopped
    scanTimer := if frame = .armed ∨ frame = .isOpen then .running 8 else .stopped }

/-- The state with a profile entry in slot 1 under the key of product 7. -/
def withProfile (e : Entry Profile) (s : State) : State :=
  s.modSdu fun d => { d with profiles := d.profiles.set 0 ⟨some 7, e⟩ }

/-- The state a command leaves. -/
def after (c : Instr) (s : State) : State := match exec c s with
  | .next t => t
  | _ => s

/-- The last reply placed or being sent. -/
def replyOf (s : State) : Option (Status × List Byte) := match s.lku.replies.getLast?, s.lku.sending with
  | some (.reply _ _ st data), _ => some (st, data)
  | none, some (.answer (.reply _ _ st data)) => some (st, data)
  | _, _ => none

/-! ### Well-formedness: an ill-formed command for each check -/

theorem test_refuses_long_body : (Instr.status 0 (List.replicate 1021 0)).wf = false := by decide +kernel
theorem test_admits_longest_body : (Instr.status 0 (List.replicate 1020 0)).wf = true := by decide +kernel
theorem test_refuses_known_kind : (Instr.unknownRequestKind 0x01 0 []).wf = false := by decide
theorem test_admits_unknown_kind : (Instr.unknownRequestKind 0x0D 0 []).wf = true := by decide
theorem test_kind_range_ends :
    [0x00, 0x01, 0x0C, 0x0D, 0x1F, 0x20, 0x38, 0x39, 0x3F, 0x40, 0x45, 0x46, 0x4F, 0x50, 0x51, 0x52].map namesRequest =
      [false, true, true, false, false, true, true, false, false, true, true, false, false, true, true, false] := by
  decide
theorem test_refuses_row_of_15 : (Instr.scanRow 0 (List.replicate 15 0)).wf = false := by decide
theorem test_admits_row_of_16 : (Instr.scanRow 0 (List.replicate 16 0)).wf = true := by decide
theorem test_refuses_long_batch : (Instr.tagRead (some ⟨1, List.replicate 256 0x41, 1, 0, 0⟩)).wf = false := by
  decide +kernel
theorem test_refuses_long_text : (Instr.readerText .side (List.replicate 256 0x41)).wf = false := by decide +kernel

/-! ### Worked values of the spec -/

/-- The check example of R181. -/
theorem test_crc_of_digits : crc [0x31, 0x32, 0x33, 0x34, 0x35, 0x36, 0x37, 0x38, 0x39] = 0x29B1 := by
  decide +kernel

/-- A 32-bit number is sent low byte first (R212). -/
theorem test_u32_low_byte_first : u32 0x12345678 = [0x78, 0x56, 0x34, 0x12] := by decide

/-- Serial and read-back text of the running number 7 for order 120 (00_scope). -/
theorem test_serial_text : serialText [0x41, 0x42, 0x43, 0x44] 7 =
    [0x41, 0x42, 0x43, 0x44, 0x2D, 0x30, 0x30, 0x30, 0x30, 0x30, 0x30, 0x30, 0x37] := by decide

theorem test_read_back_text : readBackText [0x41] 120 = [0x41, 0x2F, 0x31, 0x32, 0x30] := by decide

/-! ### A step, reset and start-up -/

theorem test_reset_is_the_first_power_on :
    after .powerOn (State.resetValues .powerOn false false Store.delivered Pins.reset .straight .straight 0 []) =
      State.reset := by decide +kernel

theorem test_start_up_waits_for_the_stations : after .startUpEnd State.reset = State.reset := by decide +kernel

/-- The end of start-up, both stations having reported healthy and A loaded. -/
def found : State :=
  (State.reset.putWrapper .a { WrapperRecord.reset with found := some (.report true true) }).putWrapper .b
    { WrapperRecord.reset with found := some (.report true false) }

theorem test_start_up_ends :
    let t := after .startUpEnd found
    t.lsv.line = .stopped ∧ (t.wrapper .a).state = .stopped ∧ (t.zone (.wrap .a)).state = .untracked ∧
      (t.wrapper .b).state = .idle ∧ t.lku.sending.isSome = true := by decide +kernel

/-! ### One command each -/

theorem test_status_is_answered : (replyOf (after (.status 9 []) running)).map (·.1) = some .ok := by decide +kernel
theorem test_status_with_an_argument : replyOf (after (.status 9 [0]) running) = some (.malformed, []) := by decide +kernel
theorem test_read_pallet_missing : replyOf (after (.readPallet 9 [1]) running) = some (.notFound, []) := by decide +kernel
theorem test_read_pallet_25 : replyOf (after (.readPallet 9 [25]) running) = some (.outOfRange, []) := by decide +kernel
theorem test_list_track_empty : replyOf (after (.listTrack 9 []) running) = some (.ok, [0, 24, 0, 0, 0, 0, 0]) := by decide +kernel
theorem test_read_order_0 : replyOf (after (.readOrder 9 (u32 0)) running) = some (.outOfRange, []) := by decide +kernel
theorem test_list_orders_empty : replyOf (after (.listOrders 9 []) running) = some (.ok, [0, 0, 0, 0, 0]) := by decide +kernel
theorem test_read_dispatch_list : replyOf (after (.readDispatchList 9 (u32 5 ++ u8 1)) (withOrder order5 running)) =
    some (.ok, [5, 0, 0, 0, 0, 0, 0, 0, 0, 0]) := by decide +kernel
theorem test_read_recipe_empty : replyOf (after (.readRecipe 9 [1]) running) = some (.notFound, []) := by decide +kernel
theorem test_read_profile_damaged :
    replyOf (after (.readProfile 9 [7, 0]) (withProfile .damaged running)) = some (.storeFault, []) := by decide +kernel
theorem test_new_order :
    let t := after (.newOrder 9 (u32 5 ++ [1, 0, 1, 0x41, 1, 1, 7, 0, 1])) running
    replyOf t = some (.ok, [1, 0, 0, 0]) ∧ t.obk.orders = [order5] := by decide +kernel
theorem test_cancel_order :
    let t := after (.cancelOrder 9 (u32 5)) (withOrder order5 running)
    replyOf t = some (.ok, []) ∧ t.obk.orders.map (·.state) = [.cancelled] := by decide +kernel
theorem test_close_order : (after (.closeOrder 9 (u32 5)) (withOrder { order5 with state := .complete } running)).obk.orders =
    [] := by decide +kernel
theorem test_authorise : (after (.authoriseRelease 9 (u32 5 ++ [1, 0x58])) (withOrder { order5 with bonded := true } running)).obk.orders.map
    (·.authority) = [some [0x58]] := by decide +kernel
theorem test_bind_lane :
    let t := after (.bindLane 9 ([6] ++ u32 5 ++ [240])) (withOrder order5 running)
    (t.lane 5).state = .bound ∧ (t.lane 5).remaining = 240 ∧ t.obk.orders.map (·.lane) = [some 5] := by decide +kernel
theorem test_unbind_closed_lane : replyOf (after (.unbindLane 9 [1]) running) = some (.wrongState, []) := by decide +kernel
theorem test_pause_lane : ((after (.pauseLane 9 [1]) (running.putLane 0 { LaneRecord.reset with
    state := .bound, minute := .running 0 })).lane 0).minute = .held 1 := by decide +kernel
theorem test_resume_lane : ((after (.resumeLane 9 [1]) (running.putLane 0 { LaneRecord.reset with
    state := .paused, minute := .held 7 })).lane 0).minute = .running 7 := by decide +kernel
theorem test_extend_stops_at_240 : replyOf (after (.extendCutOff 9 [1, 240]) (running.putLane 0 { LaneRecord.reset with
    state := .bound, remaining := 1 })) = some (.ok, [240]) := by decide +kernel
theorem test_decide_hold_too_late : replyOf (after (.decideHold 9 [1, 1]) ((withPallet 0 .div1 { pallet7 with
    state := .rejected } running).modCku fun c => { c with holdEnded := [0] })) = some (.tooLate, []) := by decide +kernel
theorem test_return_pallet :
    let t := after (.returnPallet 9 [1]) ((withPallet 0 (.sp 3) { pallet7 with state := .rejected } running).modZone (.sp 3)
      fun r => { r with eye := false })
    replyOf t = some (.ok, []) ∧ t.trt.offLine = [0] ∧ (t.zone (.sp 3)).state = .free := by decide +kernel
theorem test_remove_pallet_off_line :
    let t := after (.removePallet 9 [1]) ((running.putPallet 0 (some { pallet7 with state := .offLine })).modTrt
      fun t => { t with offLine := [0] })
    replyOf t = some (.ok, []) ∧ t.pallet 0 = none ∧ t.trt.offLine = [] := by decide +kernel
theorem test_clear_zone : ((after (.clearZone 9 [2]) (running.putZone .scan { ZoneRecord.free with
    state := .untracked })).zone .scan).state = .free := by decide +kernel
theorem test_restart_line : (after (.restartLine 9 []) stopped).lsv.line = .running := by decide +kernel
theorem test_restore_wrapper_sends_a_query :
    let t := after (.restoreWrapper 9 [1]) (running.putWrapper .a { WrapperRecord.reset with state := .faulted })
    (t.wrapper .a).owed = some 9 ∧ replyOf t = none ∧ t.ports.station.fst = some ⟨.statusQuery, 1, 0, none⟩ := by
  decide +kernel
theorem test_film_loaded_below_range : replyOf (after (.filmLoaded 9 ([1] ++ u16 99)) running) = some (.outOfRange, []) := by
  decide +kernel
theorem test_set_clock :
    let t := after (.setClock 9 (u32 100)) running
    t.lsv.clock = 100 ∧ t.lsv.unset = false ∧ replyOf t = some (.ok, [0, 0, 0, 0, 1, 100, 0, 0, 0]) := by decide +kernel
theorem test_inhibit_heads : (after (.inhibitHeads 9 [2, 1, 4]) running).cku.headInhibit = ⟨true, false, false, true⟩ := by
  decide +kernel
theorem test_define_recipe_starts_a_write :
    let t := after (.defineRecipe 9 ([1] ++ recipe1.bytes)) (keyIn .setup)
    replyOf t = some (.accepted, [1]) ∧ t.sdu.marker = some (.recipe 0) ∧ t.sdu.writeTimer = true := by decide +kernel
theorem test_define_recipe_needs_setup :
    replyOf (after (.defineRecipe 9 ([1] ++ recipe1.bytes)) running) = some (.notPermitted, []) := by decide +kernel
theorem test_set_site_of_a_short_prefix :
    replyOf (after (.setSite 9 [3, 0x41, 0x42, 0x43]) (keyIn .setup)) = some (.malformed, []) := by decide +kernel
theorem test_reset_controller :
    (after (.resetController 9 []) (keyIn .service)).lsv.resetPending = true := by decide +kernel
theorem test_unknown_kind :
    replyOf (after (.unknownRequestKind 0x0D 9 []) running) = some (.malformed, []) := by decide +kernel
theorem test_lead_byte : (after (.linkByteReceived 0x5A false) running).lku.receiver = .length none := by decide +kernel
theorem test_eye_at_in_awaits_the_tag :
    let t := after (.eyeMade .infeed) running
    (t.zone .infeed).state = .awaitingTag ∧ t.trt.tagTimer = .running 3 := by decide +kernel
theorem test_stray_pallet : ((after (.eyeMade .scan) running).zone .scan).state = .untracked := by decide +kernel
theorem test_tag_read_makes_a_record :
    let t := after (.tagRead (some ⟨7, [0x42], 10, 0, 0⟩)) ((running.putZone .infeed { ZoneRecord.free with
      state := .awaitingTag, eye := true }).modTrt fun t => { t with tagTimer := .running 3 })
    (t.pallet 0).bind (·.tag) = some tag7 ∧ (t.zone .infeed).state = .leaving ∧ (t.zone .scan).state = .reserved := by
  decide +kernel
theorem test_weight_above_3000_kg_is_discarded :
    (after (.weightReading 30001 true) (checking .armed .armed none)).cku.weight = .armed := by decide +kernel
theorem test_frame_begins :
    (after .frameBegin (withProfile (.valid profile7 true) (checking .armed .armed none))).cku.frame = .isOpen := by
  decide +kernel
theorem test_row_is_counted :
    (after (.scanRow 0 (List.replicate 16 1021)) (checking .taken .isOpen (some profile7))).cku.counts =
      ⟨16, 0, 0, 1021⟩ := by decide +kernel
theorem test_move_timer_jams :
    let s := (withPallet 0 .infeed pallet7 running).modZone .infeed fun r => { r with
      state := .leaving, partner := some .scan, moveTimer := .running 0 }
    let t := after (.moveTimerExpiry .infeed) s
    (t.zone .infeed).state = .jammed ∧ (t.zone .scan).state = .jammed := by decide +kernel
theorem test_truck_input : ((after (.truckPresentChange 5 true) running).lane 5).truck = true := by decide +kernel
theorem test_key_leaves_run : (after (.keySwitchChange false true false) running).lsv.line = .halted := by decide +kernel
theorem test_chain_opens : (after .chainOpens running).lsv.line = .stopped := by decide +kernel
theorem test_station_accepts : ((after (.stationAccepted .a 1) (wrapping .sent)).wrapper .a).channel.state = .working := by
  decide +kernel
theorem test_film_pass_is_counted :
    let t := after (.stationDone .a 1) (wrapping .working)
    (t.wrapper .a).film = 95 ∧ (t.wrapper .a).channel.command = some ⟨.cut, 2⟩ := by decide +kernel
theorem test_wrong_number_is_discarded : after (.stationDone .a 2) (wrapping .working) =
    (wrapping .working).settle.pump := by decide +kernel
theorem test_station_fault : ((after (.stationFault .a 1) (wrapping .working)).wrapper .a).state = .faulted := by
  decide +kernel
theorem test_applied_face_is_read :
    let t := after (.headApplied .fend) (labelling .toRead .applying)
    t.faceStep .side = .reading ∧ t.faceStep .fend = .toRead ∧ t.ports.reader = some .side := by decide +kernel
theorem test_mismatch_is_rejected :
    let t := after (.readerText .side []) (labelling .reading .toRead)
    t.palletState 0 = some .rejected ∧ t.lbu.state = .idle := by decide +kernel
theorem test_second_ticks :
    let t := after .clockTick (checking .armed .armed none)
    t.lsv.clock = 1 ∧ t.cku.weightTimer = .running 7 := by decide +kernel

/-! ### Every statement's hypotheses are met together by a state and operands, at the ends of the ranges -/

theorem test_both_wrappers {P : Wrapper → Prop} (a : P .a) (b : P .b) : ∀ w, P w := fun w => match w with | .a => a | .b => b
theorem test_both_faces {P : Face → Prop} (a : P .side) (b : P .fend) : ∀ f, P f := fun f => match f with | .side => a | .fend => b

theorem test_admits_StepRunsTheFrontCommandOrIdles : running.pending = [] := rfl

/-- The link and the book full: 8 replies, 32 notices, 65,535 errors, job 255, 16 orders. -/
def fullState : State :=
  { running with
    lku := { running.lku with
      replies := List.replicate 8 (.reply 0 1 .ok []), errors := 65535, job := 255
      notices := List.replicate 32 ⟨.line .stopped .running .restart .run false, ⟨0, true⟩, false⟩ }
    obk := { orders := (List.range 16).map fun n => { order5 with number := n + 1 }, creationSeq := 16 } }

theorem test_admits_StepKeepsLinkAndBookBounds : fullState.linkBounded ∧ fullState.bookSound ∧ step fullState = .next fullState := by
  refine ⟨?_, ?_, rfl⟩
  · unfold State.linkBounded; decide +kernel
  · unfold State.bookSound; decide +kernel

/-- One number left below the reserved end, which is the mark, a reservation in flight. -/
def lastNumber : State :=
  { running with
    lbu := { running.lbu with next := 199, reservedEnd := 200 }
    sdu := { running.sdu with site := .valid ⟨none, 200⟩ true, reservation := .inFlight ⟨none, 300⟩ } }

theorem test_admits_StepKeepsSerialsSafe : lastNumber.serialsSafe ∧ step lastNumber = .next lastNumber := by
  refine ⟨⟨by decide, ?_⟩, rfl⟩
  rintro c holds h
  cases h
  exact ⟨by decide, by rintro d h; cases h; rfl⟩

theorem test_admits_StepKeepsInterlockAndOutputs :
    running.interlocked ∧ running.outputsSafe ∧ stopped.interlocked ∧ stopped.outputsSafe ∧ step running = .next running := by
  refine ⟨?_, ?_, ?_, ?_, rfl⟩
  · unfold State.interlocked; decide +kernel
  · unfold State.outputsSafe; exact ⟨fun h => absurd h (by decide +kernel), fun h => absurd rfl h⟩
  · unfold State.interlocked; decide +kernel
  · refine ⟨fun _ => ⟨fun z => ?_, by decide +kernel⟩, fun _ => rfl⟩
    have h : ∀ i : Fin 22, stopped.znc.zones[i].drive = false := by decide +kernel
    exact h z.idx

/-- A reset asked and nothing left to send. -/
def due : State := (keyIn .service).modLsv fun v => { v with resetPending := true }

theorem test_admits_EveryResetLosesTheState : running.lsv.resetInput = false ∧ due.drained = true ∧ due.lku.sending = none ∧
    due.inReset = false ∧ (after .powerLoss running).inReset = true ∧ (after .powerOn running).sdu.damagedEntries = [] ∧
    (after .powerOn running).lku.notices = [] := by decide +kernel

/-- The reset input held asserted with the supply in its range. -/
def heldInReset : State := State.resetValues .resetInput true true Store.delivered Pins.reset .straight .straight 0 []

theorem test_admits_ResetIsHeldAndEnds : running.lsv.resetInput = false ∧ running.lsv.supply = true ∧ due.drained = true ∧
    due.lku.sending = none ∧ due.inReset = false ∧ heldInReset.lsv.resetInput = true ∧ heldInReset.lsv.supply = true ∧
    ∀ w, (heldInReset.wrapper w).channel.state = .idle :=
  ⟨rfl, rfl, by decide +kernel, rfl, rfl, rfl, rfl, test_both_wrappers rfl rfl⟩

/-- The end of start-up with a station's answer, and the site entry, as given. -/
def foundSo (f : Found) (site : Entry SiteData) : State :=
  (found.putWrapper .b { WrapperRecord.reset with found := some f }).modSdu fun d => { d with site := site }

theorem test_admits_StartUpEnds :
    (∀ f site, (foundSo f site).lsv.line = .powerUp ∧ (foundSo f site).inReset = false ∧
      ((foundSo f site).wrapper .b).found = some f ∧ (foundSo f site).sdu.site = site ∧
      ∀ w, ((foundSo f site).wrapper w).found.isSome = true) ∧
    (some [0x41] : Option Text).isSome = true := ⟨fun _ _ => ⟨rfl, rfl, rfl, rfl, test_both_wrappers rfl rfl⟩, rfl⟩

theorem test_admits_ClockTickCounts : running.inReset = false := rfl

/-- The link with frames waiting as given and one being sent, or none. -/
def link (sending : Option OutFrame) (replies : List Answer) (queries : List Query) (notices : List Notice) : State :=
  running.modLku fun l => { l with sending := sending, replies := replies, queries := queries, notices := notices }

def aReply : Answer := .reply 1 1 .ok []
def aQuery (sent : Bool) : Query := ⟨.profileWanted 7 0, ⟨0, true⟩, sent⟩
def aNotice : Notice := ⟨.lane .warning 0 (some 5) 10 none, ⟨0, true⟩, false⟩

theorem test_admits_FramesWaitAndLeaveInOrder :
    (let s := link (some (.notice aNotice)) [aReply] [aQuery true, aQuery false] [aNotice]
     s.inReset = false ∧ s.lku.sending = some (.notice aNotice) ∧ s.lku.replies = [aReply] ∧ s.lku.buffer = none) ∧
    (let s := link none [aReply] [] []
     s.inReset = false ∧ s.lku.sending = none ∧ s.lku.replies = aReply :: []) ∧
    (link none [] [] []).lku.replies = [] ∧
    (let s := link (some (.notice aNotice)) [] [aQuery true, aQuery false] []
     s.lku.replies = [] ∧ s.lsv.resetPending = false ∧ s.lku.queries = [aQuery true] ++ aQuery false :: [] ∧
      ∀ p ∈ [aQuery true], p.sent = true) ∧
    (let s := link (some (.notice aNotice)) [] [aQuery true] [aNotice]
     (∀ q ∈ s.lku.queries, q.sent = true) ∧ s.lku.notices = aNotice :: []) ∧
    (let s := (link (some (.notice aNotice)) [] [] []).modLsv fun v => { v with resetPending := true }
     s.lku.replies = [] ∧ s.lsv.resetPending = true ∧ s.owedCount = 0) ∧
    running.lku.notices.length < 32 ∧ 32 ≤ fullState.lku.notices.length := by decide +kernel

theorem test_admits_UnknownKindAndPowerUp :
    namesRequest 0x39 = false ∧ running.inReset = false ∧ running.taking = true ∧ running.lsv.resetPending = false ∧
    running.lku.buffer = none ∧ (link none (List.replicate 7 aReply) [] []).replyCount < 8 ∧
    State.reset.inReset = false ∧ State.reset.lsv.line = .powerUp ∧ State.reset.lsv.resetPending = false ∧
    State.reset.lku.buffer = none ∧ State.reset.replyCount < 8 := by decide +kernel

/-- A STATUS frame held, with some replies waiting. -/
def holding (replies : Nat) : State :=
  (link none (List.replicate replies aReply) [] []).modLku fun l => { l with buffer := some ⟨1, 9, []⟩ }

theorem test_admits_FramesMalformedHeldOrDiscarded :
    (namesRequest 0x0D = false ∧ State.reset.lsv.line = .powerUp ∧ State.reset.replyCount < 8) ∧
    running.hears reqStatus = true ∧ (fullState.lku.buffer = none ∧ 8 ≤ fullState.replyCount) ∧
    (holding 8).lku.buffer.isSome = true ∧ (holding 7).replyCount < 8 ∧ (holding 7).inReset = false ∧
    (holding 7).lsv.resetPending = false ∧ due.lsv.resetPending = true := by decide +kernel

theorem test_admits_ClassDecidesFirst :
    running.inReset = false ∧ running.taking = true ∧ running.lsv.resetPending = false ∧ running.lku.buffer = none ∧
    running.replyCount < 8 ∧ Class.configure.admitted running.lsv.key = false ∧
    Class.operate.admitted (keyIn .service).lsv.key = false := by decide +kernel

/-- The receiver in a state, its gap timer running. -/
def receiving (r : Receiver) : State := running.modLku fun l => { l with receiver := r, gapTimer := true }

theorem test_admits_ReceiverTakesBytesAndCountsDiscards :
    running.inReset = false ∧ (receiving .hunt).lku.gapTimer = true ∧ (holding 8).lku.buffer.isSome = true ∧
    running.lku.receiver = .hunt ∧ (receiving (.length none)).lku.receiver ≠ .hunt ∧
    (receiving (.length (some 0xFE))).lku.receiver = .length (some 0xFE) ∧
    (receiving (.content 1022 [])).lku.receiver = .content 1022 [] ∧
    (receiving (.check 2 [1, 9] none)).lku.receiver = .check 2 [1, 9] none ∧
    (receiving (.check 2 [1, 9] (some 0))).lku.receiver = .check 2 [1, 9] (some 0) ∧
    (crc (u16 2 ++ [1, 9])).toNat ≠ (0 : Byte).toNat + 256 * (0 : Byte).toNat := by decide +kernel

theorem test_admits_FrameBytesMakeTheRequest : running.lku.receiver = .hunt ∧ running.lku.gapTimer = false ∧
    running.pump = running ∧ (List.replicate 1020 (0 : Byte)).length ≤ 1020 := by decide +kernel

theorem test_admits_ObserveRequestsReport :
    running.hears reqStatus = true ∧ (0 : Byte).toNat = 0 ∧ 24 < (25 : Byte).toNat ∧
    (let s := withProfile (.valid profile7 true) running
     s.sdu.slotOf 7 = some 0 ∧ s.sdu.profiles[(0 : Fin 64)].entry = .valid profile7 true) ∧
    (withProfile (.valid profile7 false) running).sdu.profiles[(0 : Fin 64)].entry = .valid profile7 false ∧
    (withProfile .damaged running).sdu.profiles[(0 : Fin 64)].entry = .damaged ∧ running.sdu.slotOf 65535 = none ∧
    running.sdu.recipes[(15 : Fin 16)] = .empty true ∧
    running.hears reqReadPallet = true ∧ running.hears reqReadProfile = true := by decide +kernel

/-- Order 999,999 with eight lines of seven or eight, sixty in all. -/
def largestOrder : NewOrder :=
  { number := 999999, priority := 3, bonded := true, destination := List.replicate 24 0x41,
    lines := (List.range 8).map fun n => (n + 1, 65535 - n, if n < 4 then 8 else 7) }

theorem test_admits_NewOrderIsEntered :
    running.hears reqNewOrder = true ∧ running.obk.orders.length < 16 ∧ running.order 999999 = none ∧
    argNewOrder (u32 999999 ++ u8 3 ++ flagByte true ++ textBytes largestOrder.destination ++
      counted (fun l => u8 l.1 ++ u16 l.2.1 ++ u8 l.2.2) largestOrder.lines) = .ok largestOrder :=
  ⟨by decide +kernel, by decide +kernel, by decide +kernel, rfl⟩

theorem test_admits_BodiesReadBack :
    (largestOrder.lines.map fun l => l.2.2).sum ≤ 60 ∧ (largestOrder.lines.map fun l => l.1).Nodup ∧
    (largestOrder.lines.map fun l => l.2.1).Nodup ∧ isText largestOrder.destination = true ∧
    profile7.grid.length = 320 ∧ firstBad profile7.tests = none ∧ isPrefix [0x41, 0x5A, 0x30, 0x39] = true := by
  decide +kernel

/-- The lane and order 5 bound to each other. -/
def boundLane (n : Lane) (o : Order) (r : LaneRecord) (s : State) : State :=
  (withOrder { o with state := .bound, lane := some n } s).putLane n { r with state := .bound, order := some o.number }

theorem test_admits_OrdersEndAndClose :
    running.hears reqCloseOrder = true ∧ running.hears reqCancelOrder = true ∧ running.order 999999 = none ∧
    (withOrder order5 running).order 5 = some order5 ∧ order5.state.live = true ∧ OrderState.complete.live = false ∧
    isText [0x58] = true ∧
    (let s := boundLane 0 { order5 with bonded := true } LaneRecord.reset running
     (s.order 5).map (fun o => (o.bonded, o.state.live, o.lane)) = some (true, true, some 0)) := by decide +kernel

theorem test_admits_LaneRequestsActOnTheLane :
    running.hears reqBindLane = true ∧ running.hears reqUnbindLane = true ∧ running.order 5 = none ∧
    (withOrder order5 running).order 5 = some order5 ∧ (running.lane 5).state = .closed ∧
    ((boundLane 5 order5 LaneRecord.reset running).lane 5).state ≠ .closed := by decide +kernel

/-- A record HELD in DIV1 with the hold timer running. -/
def held : State :=
  (withPallet 23 .div1 { pallet7 with state := .held, attempts := 1, reasons := [.noScan] } running).modCku fun c =>
    { c with holdTrack := some 23, holdTimer := .running 15 }

theorem test_admits_HoldIsDecidedOrTimesOut :
    running.hears reqDecideHold = true ∧ running.pallet 23 = none ∧ held.palletState 23 = some .held ∧
    held.cku.holdTrack = some 23 ∧ held.cku.holdTimer.isRunning = true ∧ held.inReset = false ∧
    running.cku.holdTimer = .stopped ∧
    ((withPallet 0 .infeed pallet7 running).pallet 0).map (·.state) = some .entering := by decide +kernel

theorem test_admits_HeadsAndClockAreSet : running.hears reqSetClock = true ∧ ([1, 2, 3, 4] : List Nat).length ≤ 4 ∧
    (∀ h ∈ ([1, 4] : List Nat), 1 ≤ h ∧ h ≤ 4) := by decide +kernel

/-- A record that may be returned, its eye as given. -/
def atSpurExit (eye : Bool) : State :=
  (withPallet 0 (.sp 3) { pallet7 with state := .rejected, attempts := 2 } running).modZone (.sp 3) fun r => { r with eye := eye }

theorem test_admits_PalletIsReturned :
    running.hears reqReturnPallet = true ∧ running.pallet 0 = none ∧
    ∀ eye, ((atSpurExit eye).pallet 0).map (fun p => (p.state, p.location, p.tag.isSome, p.attempts)) =
      some (.rejected, some (.sp 3), true, 2) ∧ ((atSpurExit eye).zone (.sp 3)).eye = eye := by decide +kernel

/-- A JAMMED pair SCAN and DIV1. -/
def jammed (z : ZoneState) (eye : Bool) : State :=
  ((withPallet 0 .scan pallet7 running).modZone .scan fun r => { r with state := z, partner := some .div1, eye := eye }).putZone
    .div1 { ZoneRecord.free with state := z, record := some 0, partner := some .scan }

/-- Wrapper A in a state with a record WRAP_STOPPED in it. -/
def wrapStoppedIn (st : WrapperState) : State :=
  (withPallet 0 (.wrap .a) { pallet7 with state := .wrapStopped } running).putWrapper .a
    { WrapperRecord.reset with state := st, load := .track 0 }

theorem test_admits_PalletIsRemovedFromItsPlace :
    running.hears reqRemovePallet = true ∧ running.pallet 0 = none ∧
    (∀ eye, ((jammed .jammed eye).pallet 0).map (fun p => (p.location, p.state)) = some (some .scan, .entering) ∧
      ((jammed .jammed eye).zone .scan).partner = some .div1 ∧
      (jammed .jammed eye).eyesClear (.pair .scan .div1) = !eye) ∧
    ((atSpurExit false).pallet 0).bind (atSpurExit false).removalPlace = some .spurExit ∧
    (let s := running.putPallet 23 (some { pallet7 with state := .offLine })
     (s.pallet 23).bind s.removalPlace = some .offLine ∧ s.eyesClear .offLine = true) ∧
    (let s := withPallet 0 (.gate 5) { pallet7 with state := .labelled, orphaned := true } running
     (s.pallet 0).bind s.removalPlace = some (.gate 5) ∧ s.eyesClear (.gate 5) = false) ∧
    (let s := (wrapStoppedIn .faulted).modZone (.wrap .a) fun r => { r with eye := false }
     (s.pallet 0).bind s.removalPlace = some (.wrapper .a) ∧ s.eyesClear (.wrapper .a) = true ∧
      ((after (.removePallet 9 [1]) s).zone (.wrap .a)).state = .free ∧
      ((after (.removePallet 9 [1]) s).wrapper .a).load = .none) ∧
    (running.pallet 0).map (·.location) ≠ some none ∧ (some pallet7).map (·.location) = some none ∧
    (let s := withPallet 0 .infeed pallet7 running
     (s.pallet 0).bind s.removalPlace = none ∧ (s.zone .infeed).state ≠ .jammed ∧ (s.zone .infeed).state ≠ .uncertain) := by
  decide +kernel

theorem test_admits_ZonesAreRepaired :
    running.hears reqClearZone = true ∧ running.pallet 0 = none ∧ ((jammed .uncertain true).zone .scan).state = .uncertain ∧
    ((jammed .uncertain true).zone .scan).record = some 0 ∧ ((jammed .uncertain true).zone .scan).eye = true ∧
    ((jammed .uncertain true).zone .scan).partner = some .div1 ∧ ((jammed .jammed false).zone .scan).eye = false ∧
    ((jammed .jammed true).pallet 0).isSome = true := by decide +kernel

/-- A check abandoned in SCAN on the stopped line. -/
def abandoned : State :=
  (withPallet 0 .scan { pallet7 with state := .checking, attempts := 1 } stopped).modCku fun c => { c with
    state := .abandoned, track := some 0 }

theorem test_admits_LineIsRestarted :
    running.hears reqRestartLine = true ∧ running.lsv.line ≠ .stopped ∧ abandoned.hears reqRestartLine = true ∧
    abandoned.lsv.line = .stopped ∧ abandoned.lsv.key = .run ∧ abandoned.lsv.chainOpen = false ∧
    abandoned.cku.state = .abandoned ∧ abandoned.lbu.state ≠ .cycle ∧
    (∀ i : Fin 22, abandoned.znc.zones[i].interrupted = false) ∧
    (∀ g : Lane, abandoned.occupant (.gate g) ≠ some 0) := by decide +kernel

theorem test_admits_WrapperIsRestoredByItsReport :
    running.hears reqRestoreWrapper = true ∧ (running.wrapper .a).state ≠ .faulted ∧
    (let s := running.putWrapper .a { WrapperRecord.reset with state := .faulted }
     s.hears reqRestoreWrapper = true ∧ (s.wrapper .a).state = .faulted ∧ (s.wrapper .a).channel.state = .idle) ∧
    (let s := queried .stopped (some 9)
     s.hears reqRestoreWrapper = true ∧ (s.wrapper .a).state = .faulted ∧ (s.wrapper .a).channel.state ≠ .idle) ∧
    (let s := queried .powerUp none
     s.inReset = false ∧ (s.wrapper .a).channel.state = .sent ∧
      (s.wrapper .a).channel.command = some ⟨.statusQuery, 1⟩ ∧ (s.wrapper .a).channel.acceptance = true ∧
      s.lsv.line = .powerUp) ∧
    (let s := queried .running (some 9)
     s.inReset = false ∧ (s.wrapper .a).channel.state = .sent ∧
      (s.wrapper .a).channel.command = some ⟨.statusQuery, 1⟩ ∧ s.lsv.line ≠ .powerUp ∧ (s.wrapper .a).owed = some 9) := by
  decide +kernel

theorem test_admits_WrapperRequestsAct :
    running.hears reqWrapperOffline = true ∧ running.hears reqRestartWrap = true ∧
    (running.wrapper .a).state ≠ .stopped ∧ (running.wrapper .a).state ≠ .faulted ∧
    ∀ st, (wrapStoppedIn st).hears reqRestartWrap = true ∧ ((wrapStoppedIn st).wrapper .a).load = .track 0 ∧
      ((wrapStoppedIn st).wrapper .a).state = st ∧
      ((wrapStoppedIn st).pallet 0).map (·.state) = some .wrapStopped := by
  refine ⟨by decide +kernel, by decide +kernel, by decide +kernel, by decide +kernel, fun st => ⟨?_, rfl, rfl, rfl⟩⟩
  cases st <;> decide +kernel

/-- The labeller STOPPED with SIDE to be applied again after some applies. -/
def labellerStopped (applies : Nat) (line : LineState) : State :=
  (((labelling .toApply .done).modLbu fun l => { l with state := .stopped }).modPallet 0 fun p => { p with
    faces := ⟨⟨.noRead, applies⟩, ⟨.isMatch, 1⟩⟩ }).modLsv fun v => { v with line := line }

theorem test_admits_LabellerIsRestored :
    running.hears reqRestoreLabeller = true ∧ running.lbu.state ≠ .stopped ∧
    (let s := labellerStopped 2 .stopped
     s.hears reqRestoreLabeller = true ∧ s.lbu.state = .stopped ∧ s.lsv.line = .stopped) ∧
    (let s := labellerStopped 2 .running
     s.hears reqRestoreLabeller = true ∧ s.lbu.state = .stopped ∧ s.lsv.line ≠ .stopped ∧ s.lbu.track = some 0 ∧
      (s.pallet 0).isSome = true ∧ s.spent .side = true) ∧
    (let s := labellerStopped 1 .running
     s.lbu.state = .stopped ∧ s.lsv.line ≠ .stopped ∧ s.spent .side = false ∧ s.spent .fend = false) := by decide +kernel

set_option maxRecDepth 20000 in
theorem test_admits_ConfigureAndServiceRequestsAreTaken :
    (running.hears reqSupplyProfile = true ∧ (keyIn .setup).hears reqDefineProfile = true ∧
      (keyIn .service).hears reqRecoverSerials = true ∧ (keyIn .service).hears reqResetController = true) ∧
    argSupply (u16 7 ++ profile7.bytes) = .ok profile7 ∧ argProfile profile7.bytes = .ok profile7 ∧
    argProduct (u16 65535) = .ok 65535 ∧ argDefineRecipe (u8 16 ++ recipe1.bytes) = .ok (15, recipe1) ∧
    argRecipe (u8 16) = .ok 15 ∧ argTiming TimingValues.defaults.bytes = .ok TimingValues.defaults ∧
    argPrefix (textBytes [0x41, 0x42, 0x43, 0x44]) = .ok [0x41, 0x42, 0x43, 0x44] ∧
    argRecover (textBytes [0x41, 0x42, 0x43, 0x44] ++ u32 100000000) = .ok ([0x41, 0x42, 0x43, 0x44], 100000000) :=
  ⟨by decide +kernel, rfl, rfl, rfl, rfl, rfl, rfl, rfl, rfl⟩

/-- A host job in the slot, waiting or in flight. -/
def withJob (write : StoreWrite) (inFlight : Bool) : State :=
  running.modSdu fun d => { d with
    host := if inFlight then .inFlight ⟨1, 0x42, write⟩ else .waiting ⟨1, 0x42, write⟩, writeTimer := inFlight }

theorem test_admits_StoreWritesStartAndEnd :
    (running.sdu.hostInFlight = none ∧ running.sdu.reservationInFlight = none ∧ running.lsv.resetPending = false) ∧
    (withJob (.recipe 0 recipe1) true).sdu.hostInFlight.isSome = true ∧
    (let s := running.modSdu fun d => { d with reservation := .waiting }
     s.sdu.reservation = .waiting ∧ s.sdu.site = .valid ⟨none, 0⟩ true) ∧
    (let s := withJob (.recipe 15 recipe1) false
     s.sdu.reservation = .empty ∧ s.sdu.host = .waiting ⟨1, 0x42, .recipe 15 recipe1⟩) ∧
    (let s := withJob (.profile 63 profile7) true
     s.inReset = false ∧ s.sdu.host = .inFlight ⟨1, 0x42, .profile 63 profile7⟩ ∧ s.sdu.reservation = .empty ∧
      s.sdu.writeTimer = true) ∧ running.sdu.writeTimer = false ∧
    (let s := withJob (.setSite [0x41]) true
     s.inReset = false ∧ s.sdu.host = .inFlight ⟨1, 0x42, .setSite [0x41]⟩ ∧ s.sdu.reservation = .empty ∧
      s.sdu.writeTimer = true ∧ (StoreWrite.setSite [0x41]).site = some ⟨some [0x41], 1⟩ ∧
      (after (.storeWriteReport ⟨s.sdu.started, false⟩) s).sdu.site = .damaged ∧
      (after (.storeWriteReport ⟨s.sdu.started, false⟩) s).lbu.block = some .siteDamaged) ∧
    (running.inReset = false ∧ running.sdu.hostInFlight = none ∧ running.sdu.reservationInFlight = none) ∧
    1 ≠ (withJob (.setSite [0x41]) true).sdu.started := by decide +kernel

/-- The labeller 20 below the reserved end given. -/
def atLowWater (end_ : Nat) : State := running.modLbu fun l => { l with next := end_ - 20, reservedEnd := end_ }

/-- A record that waits in LABEL with the serial given, one number left. -/
def waitingSerial (serial : Option Nat) : State :=
  (withPallet 0 .label { pallet7 with state := .labelling, serial := serial } running).modLbu fun l => { l with
    state := .waitSerial, track := some 0, next := 199, reservedEnd := 200 }

theorem test_admits_SerialNumbersAreReserved :
    (let s := atLowWater 99999900
     s.lbu.reservedEnd ≤ s.lbu.next + 20 ∧ s.lbu.inFlight = false ∧ s.lbu.block = none ∧ s.lbu.exhausted = false ∧
      s.lbu.reservedEnd + 100 ≤ 100000000) ∧
    (let s := atLowWater 99999901
     s.lbu.reservedEnd ≤ s.lbu.next + 20 ∧ 100000000 < s.lbu.reservedEnd + 100) ∧
    (lastNumber.inReset = false ∧ lastNumber.sdu.reservation = .inFlight ⟨none, 300⟩ ∧
      lastNumber.sdu.site = .valid ⟨none, 200⟩ true ∧ lastNumber.lbu.state ≠ .waitSerial) ∧
    (let s := lastNumber.modSdu fun d => { d with site := .damaged, writeTimer := true }
     s.sdu.reservation = .inFlight ⟨none, 300⟩ ∧ s.sdu.site.state ≠ .valid ∧ s.sdu.writeTimer = true ∧
      (after .writeTimerExpiry s).lbu.block = some .siteDamaged) ∧
    (let s := waitingSerial none
     s.lbu.state = .waitSerial ∧ s.lbu.track = some 0 ∧ (s.pallet 0).map (·.serial) = some none ∧
      s.lbu.block = none ∧ s.lbu.next < s.lbu.reservedEnd ∧
      (s.serveSerial.pallet 0).bind (·.serial) = some s.lbu.next) ∧
    ((waitingSerial none).modLbu fun l => { l with block := some .siteDamaged }).lbu.block.isSome = true ∧
    ((waitingSerial (some 5)).pallet 0).bind (·.serial) = some 5 ∧
    (let s := withJob (.recoverSerials [0x41] 100000000) true
     s.inReset = false ∧ s.sdu.host = .inFlight ⟨1, 0x42, .recoverSerials [0x41] 100000000⟩ ∧ s.sdu.reservation = .empty ∧
      (StoreWrite.recoverSerials [0x41] 100000000).site = some ⟨some [0x41], 100000000⟩) := by decide +kernel

/-- A checked record in DIV1 as the check track. -/
def checked (reasons : List Reason) (attempts : Nat) : State :=
  (withPallet 0 .div1 { pallet7 with state := .checking, reasons := reasons, attempts := attempts } running).modCku fun c =>
    { c with state := .done, track := some 0 }

theorem test_admits_CheckedRecordIsDecided :
    (∀ reasons attempts, (checked reasons attempts).cku.track = some 0 ∧
      ((checked reasons attempts).pallet 0).map (fun p => (p.reasons, p.attempts)) = some (reasons, attempts)) ∧
    ((withPallet 23 .scan pallet7 running).pallet 23).map (·.state) = some .entering ∧
    ((checked [] 1).pallet 0).map (·.state) ≠ some .entering ∧ running.cku.track ≠ some 0 ∧
    (∀ r ∈ [Reason.scanFault], r.code ≤ 9) ∧ (∃ r ∈ [Reason.noTag], 9 < r.code) ∧
    running.lku.notices.length < 32 := by
  refine ⟨fun _ _ => ⟨rfl, rfl⟩, ?_⟩
  decide +kernel

/-- A record with a tag that asks for order 5, and that order. -/
def wanted : State := withPallet 0 .div1 { pallet7 with tag := some { tag7 with order := some 5 } } (withOrder order5 running)

theorem test_admits_AllocationChoosesByPriority :
    (wanted.pallet 0).bind (·.tag) = some { tag7 with order := some 5 } ∧ (wanted.allocate 0).isSome = true ∧
    ((withPallet 0 .div1 pallet7 running).allocate 0).isSome = false ∧
    ((withPallet 0 .div1 { pallet7 with tag := none } running).pallet 0).map (·.tag) = some none := by decide +kernel

theorem test_admits_ManifestIsTheFoldOfTheList :
    (∀ o ∈ (withOrder order5 running).obk.orders,
      o.manifest = o.dispatch.foldl (fun w e => foldSerial w e.serial) 0) ∧
    exec .resetInput (withOrder order5 running) = .next (after .resetInput (withOrder order5 running)) := by
  exact ⟨by decide +kernel, rfl⟩

/-- A LABELLED record of order 5 at gate 1, its lane BOUND, with the truck as given. -/
def atGate (ordered : Nat) (truck : Bool) : State :=
  withPallet 0 (.gate 0) { pallet7 with state := .labelled, serial := some 0, assignment := some ⟨5, 1⟩ }
    (boundLane 0 { order5 with lines := [⟨1, 7, ordered, 1, 0⟩] } { LaneRecord.reset with truck := truck } running)

theorem test_admits_ReleaseTestThatFails :
    running.occupant (.gate 0) = none ∧
    (running.putZone (.gate 0) { ZoneRecord.free with state := .occupied, record := some 3 }).occupant (.gate 0) = some 3 ∧
    (let s := withPallet 0 (.gate 5) { pallet7 with state := .labelled, orphaned := true } running
     s.occupant (.gate 5) = some 0 ∧ (s.pallet 0).map (·.assignment) = some none ∧ s.testRelease 5 = s) ∧
    (let s := (atGate 1 true).modLane 0 fun l => { l with order := some 6 }
     s.occupant (.gate 0) = some 0 ∧ (s.pallet 0).bind (·.assignment) = some ⟨5, 1⟩ ∧ (s.lane 0).order ≠ some 5 ∧
      s.testRelease 0 = s) := by decide +kernel

theorem test_admits_ReleaseDispatchesThePallet : ∀ truck : Bool, ∀ ordered ∈ [1, 2],
    let s := atGate ordered truck
    s.occupant (.gate 0) = some 0 ∧ (s.pallet 0).bind (·.assignment) = some ⟨5, 1⟩ ∧ (s.order 5).isSome = true ∧
      (s.lane 0).order = some 5 ∧ (s.lane 0).state = .bound ∧ (s.lane 0).truck = truck ∧ s.lsv.line = .running := by
  decide +kernel

theorem test_admits_MovesStartByTheTable :
    stopped.lsv.line ≠ .running ∧ running.lsv.line = .running ∧ Zone.div1 ≠ Zone.feed ∧
    (let s := withPallet 23 .infeed pallet7 running
     s.occupant .infeed = some 23 ∧ (s.pallet 23).map (·.state) = some .entering ∧ (s.zone .scan).state = .free) ∧
    (let s := (withPallet 0 .scan { pallet7 with state := .checking } running).modCku fun c => { c with
       state := .done, track := some 0 }
     s.occupant .scan = some 0 ∧ s.cku.state = .done ∧ s.cku.track = some 0 ∧ (s.zone .div1).state = .free) ∧
    (let s := withPallet 0 (.sp 2) { pallet7 with state := .rejected } running
     s.occupant (.sp 2) = some 0 ∧ (s.zone (.sp 3)).state = .free) ∧
    (let s := (withPallet 0 (.wrap .b) { pallet7 with state := .wrapped } running).putWrapper .b { WrapperRecord.reset with
       state := .discharging, load := .track 0 }
     s.occupant (.wrap .b) = some 0 ∧ (s.zone (.out .b)).state = .free ∧ (s.wrapper .b).load = .track 0 ∧
      (s.settle.zone (.out .b)).record = some 0 ∧ (s.settle.wrapper .b).dischargeUnderWay = true) ∧
    (let s := (withPallet 0 .sort { pallet7 with state := .labelled } running).modZnc fun u => { u with route := some 5 }
     s.occupant .sort = some 0 ∧ (s.zone (.gate 5)).state = .free ∧ s.znc.route = some 5 ∧
      (s.settle.zone (.gate 5)).record = some 0 ∧ s.settle.znc.route = none) ∧
    (let s := withPallet 0 (.out .b) { pallet7 with state := .wrapped } running
     s.occupant (.out .b) = some 0 ∧ s.occupant (.out .a) = none ∧ (s.zone .merge).state = .free ∧
      (s.settle.zone .merge).record = some 0) ∧
    (let s := withPallet 0 .div1 { pallet7 with state := .rejected } running
     s.occupant .div1 = some 0 ∧ s.occupant .div2 = none ∧ (s.zone (.sp 0)).state = .free ∧
      (s.settle.zone (.sp 0)).record = some 0) := by decide +kernel

theorem test_admits_ArbitersChoose :
    running.lsv.line = .running ∧
    (let s := withPallet 0 .feed { pallet7 with state := .accepted } running
     s.occupant .feed = some 0 ∧ (s.pallet 0).map (·.state) = some .accepted ∧ s.qualifies s.znc.splitter.other = true ∧
      (s.settle.zone (.wrap .a)).record = some 0 ∧ (s.settle.wrapper .a).state = .loading) ∧
    (let s := (withPallet 0 .feed { pallet7 with state := .accepted } running).putWrapper .a { WrapperRecord.reset with
       state := .offline }
     s.qualifies s.znc.splitter.other = false ∧ s.qualifies s.znc.splitter = true ∧
      (s.settle.zone (.wrap .b)).record = some 0) ∧
    ((running.putWrapper .a { WrapperRecord.reset with state := .offline }).putWrapper .b { WrapperRecord.reset with
       state := .faulted }).qualifies .a = false ∧
    (let s := withPallet 1 (.out .b) { pallet7 with state := .rejected, checkSeq := some 3 }
       (withPallet 0 (.out .a) { pallet7 with state := .wrapped, checkSeq := some 3 } running)
     (s.zone .merge).state = .free ∧ s.occupant (.out .a) = some 0 ∧ s.occupant (.out .b) = some 1 ∧
      (s.pallet 0).bind (·.checkSeq) = some 3 ∧ (s.pallet 1).bind (·.checkSeq) = some 3 ∧
      (s.settle.zone .merge).record = some 0) ∧
    (let s := withPallet 1 .div1 { pallet7 with state := .rejected } (withPallet 0 .div2 { pallet7 with
       state := .rejected } running)
     (s.zone (.sp 0)).state = .free ∧ s.occupant .div2 = some 0 ∧ s.occupant .div1 = some 1 ∧
      (s.settle.zone (.sp 0)).record = some 0) ∧
    (let s := withPallet 0 .div2 { pallet7 with state := .labelled, assignment := some ⟨5, 1⟩ }
       (boundLane 0 order5 LaneRecord.reset running)
     s.occupant .div2 = some 0 ∧ (s.order 5).bind (·.lane) = some 0 ∧ (s.order 5).map (·.state) = some .bound ∧
      (s.settle.zone .sort).record = some 0 ∧ s.settle.znc.route = some 0 ∧
      (s.putZone .sort { ZoneRecord.free with state := .untracked }).settle.zone .div2 = s.zone .div2) ∧
    (∀ orphaned : Bool,
     let s := withPallet 0 .div2 { pallet7 with
       state := .labelled, orphaned := orphaned, assignment := if orphaned then none else some ⟨5, 1⟩ }
       (withOrder order5 running)
     s.occupant .div2 = some 0 ∧ (s.pallet 0).map (·.orphaned) = some orphaned ∧ (s.order 5).map (·.lane) = some none ∧
      (s.handOn .div2 0).palletState 0 = some (if orphaned then .rejected else .labelled) ∧
      (s.handOn .div2 0).znc.laneWait = if orphaned then .stopped else .running 60) := by
  decide +kernel

/-- An interrupted move out of SCAN, or departure out of gate 1, with the eyes given. -/
def interruptedMove (src dst : Bool) : State :=
  ((withPallet 0 .scan pallet7 stopped).modZone .scan fun r => { r with
    state := .leaving, partner := some .div1, interrupted := true, eye := src }).putZone .div1 { ZoneRecord.free with
      state := .reserved, record := some 0, partner := some .scan, interrupted := true, eye := dst }

def interruptedDeparture (eye : Bool) : State :=
  stopped.putZone (.gate 0) { ZoneRecord.free with state := .leaving, interrupted := true, eye := eye }

theorem test_admits_InterruptedMoveIsResolved :
    (∀ src dst, let s := interruptedMove src dst
     (s.zone .scan).state = .leaving ∧ (s.zone .scan).interrupted = true ∧ (s.zone .scan).partner = some .div1 ∧
      (s.zone .scan).record = some 0 ∧ (s.zone .scan).eye = src ∧ (s.zone .div1).eye = dst) ∧
    (∀ eye, let s := interruptedDeparture eye
     (s.zone (.gate 0)).state = .leaving ∧ (s.zone (.gate 0)).interrupted = true ∧ (s.zone (.gate 0)).record = none ∧
      (s.zone (.gate 0)).eye = eye) ∧
    (stopped.zone .scan).state ≠ .leaving := by decide +kernel

/-- A move under way from IN into SCAN. -/
def moving : State :=
  ((withPallet 0 .infeed pallet7 running).modZone .infeed fun r => { r with
    state := .leaving, partner := some .scan, eye := false, moveTimer := .running 12 }).putZone .scan { ZoneRecord.free with
      state := .reserved, record := some 0, partner := some .infeed }

/-- A departure under way at gate 6. -/
def departing : State :=
  running.putZone (.gate 5) { ZoneRecord.free with state := .leaving, eye := true, moveTimer := .running 12, drive := true }

/-- IN awaiting the tag. -/
def awaiting : State :=
  (running.putZone .infeed { ZoneRecord.free with state := .awaitingTag, eye := true }).modTrt fun t => { t with
    tagTimer := .running 3 }

theorem test_admits_EyesAreTaken :
    running.inReset = false ∧ running.taking = true ∧ (departing.zone (.gate 5)).eye = true ∧
    (running.zone .infeed).eye = false ∧ (running.zone .infeed).state = .free ∧ (running.zone .scan).state = .free ∧
    ((moving.zone .scan).eye = false ∧ (moving.zone .scan).state = .reserved ∧ (moving.zone .scan).interrupted = false ∧
      (moving.zone .scan).record = some 0 ∧ (moving.zone .scan).partner = some .infeed ∧ (moving.zone .infeed).eye = false) ∧
    ((jammed .jammed false).zone .scan).state ≠ .reserved ∧
    ((awaiting.zone .infeed).eye = true ∧ (awaiting.zone .infeed).state = .awaitingTag) ∧
    ((departing.zone (.gate 5)).state = .leaving ∧ (departing.zone (.gate 5)).record = none ∧
      (departing.zone (.gate 5)).interrupted = false) ∧
    ((jammed .jammed true).zone .scan).eye = true ∧ ((jammed .jammed true).zone .scan).state ≠ .awaitingTag ∧
    State.reset.lsv.line = .powerUp ∧ heldInReset.inReset = true := by decide +kernel

/-- IN awaiting the tag, with an OFF_LINE record of product 7, and with the track full. -/
def awaitingReturned : State :=
  (awaiting.putPallet 23 (some { pallet7 with state := .offLine })).modTrt fun t => { t with offLine := [23] }

def awaitingFull : State := awaiting.modTrt fun t => { t with pallets := Vector.replicate 24 (some pallet7) }

theorem test_admits_TagsIdentifyPallets :
    awaiting.inReset = false ∧ awaiting.taking = true ∧ (awaiting.zone .infeed).state = .awaitingTag ∧
    awaiting.trt.tagTimer.isRunning = true ∧ (TagFields.tag ⟨7, [0x42], 10, 0, 0⟩) = some tag7 ∧
    (awaitingReturned.trt.offLine.find? (fun m => match (awaitingReturned.pallet m).bind (·.tag) with
      | some q => q.product == tag7.product && q.batch == tag7.batch
      | none => false) = some 23 ∧ (awaitingReturned.pallet 23).isSome = true) ∧
    (awaiting.trt.offLine = [] ∧ awaiting.pallet 0 = none) ∧ (∀ n, awaitingFull.pallet n ≠ none) ∧
    (running.zone .infeed).state ≠ .awaitingTag ∧ running.trt.tagTimer = .stopped ∧
    (((after (.tagRead (some ⟨7, [0x42], 10, 0, 0⟩)) awaiting).zone .infeed).record = some 0 ∧
      (after (.tagRead (some ⟨7, [0x42], 10, 0, 0⟩)) awaiting).cku.waiters = [⟨7, [0]⟩]) := by decide +kernel

theorem test_admits_ProfileWanted :
    (let s := withPallet 1 .infeed pallet7 (running.ask (.profileWanted 7 0))
     (s.pallet 1).bind (·.tag) = some tag7 ∧ s.sdu.slotOf 7 = none ∧ s.profileAsked 7 = true ∧ s.profileAsked 8 = false) ∧
    (∀ e ∈ [.empty true, .damaged, .valid profile7 true, .valid profile7 false],
      let s := withProfile e (withPallet 1 .infeed pallet7 running)
      s.sdu.slotOf 7 = some 0 ∧ s.sdu.profiles[(0 : Fin 64)].entry = e ∧
        ((s.wantProfile 1).profileAsked 7 = true ↔ e ≠ .valid profile7 true)) := by decide +kernel

theorem test_admits_WeightTimesOut :
    (let s := checking .armed .armed none
     s.inReset = false ∧ s.taking = true ∧ s.cku.track = some 0 ∧ (s.pallet 0).isSome = true ∧ s.cku.weight = .armed ∧
      s.cku.weightTimer.isRunning = true) ∧
    ((checking .armed .armed none).modCku fun c => { c with weightTimer := .stopped }).cku.weightTimer = .stopped := by
  decide +kernel

theorem test_admits_WeightIsTaken : running.inReset = false ∧ running.taking = true ∧
    (checking .armed .armed none).cku.weight = .armed ∧ (0 : Int) ≤ 30000 := by decide +kernel

theorem test_admits_FrameBegins :
    (let s := checking .armed .armed none
     s.inReset = false ∧ s.taking = true ∧ s.cku.frame = .armed ∧ s.cku.track = some 0 ∧
      (s.pallet 0).bind (·.tag) = some tag7 ∧ s.sdu.slotOf 7 = none) ∧
    (∀ e ∈ [.damaged, .valid profile7 true, .valid profile7 false],
      let s := withProfile e (checking .armed .armed none)
      s.sdu.slotOf 7 = some 0 ∧ s.sdu.profiles[(0 : Fin 64)].entry = e) ∧
    (((checking .armed .armed none).modPallet 0 fun p => { p with tag := none }).pallet 0).map (·.tag) = some none ∧
    (let s := checking .taken .isOpen (some profile7)
     s.cku.frame = .isOpen ∧ s.cku.track = some 0 ∧ s.cku.snapshot = some profile7) ∧
    running.cku.frame = .off := by decide +kernel

theorem test_admits_RowsAreCounted :
    running.cku.frame ≠ .isOpen ∧
    (let s := (checking .taken .isOpen (some profile7)).modCku fun c => { c with rows := 47 }
     s.inReset = false ∧ s.taking = true ∧ s.cku.frame = .isOpen ∧ s.cku.snapshot = some profile7 ∧ s.cku.track = some 0 ∧
      47 = s.cku.rows ∧ 47 < 48) ∧
    (let s := (checking .taken .isOpen (some profile7)).modCku fun c => { c with rows := 48 }
     48 = s.cku.rows ∧ 48 ≤ 48) := by decide +kernel

theorem test_admits_FrameEnds :
    running.inReset = false ∧ running.taking = true ∧ running.cku.frame ≠ .isOpen ∧
    (let s := checking .taken .armed none
     s.cku.frame = .armed ∧ s.cku.track = some 0 ∧ s.cku.scanTimer.isRunning = true) ∧
    (let s := checking .taken .isOpen (some profile7)
     s.cku.frame = .isOpen ∧ s.cku.snapshot = some profile7 ∧ s.cku.track = some 0 ∧ s.cku.scanTimer.isRunning = true) := by
  decide +kernel

theorem test_admits_VerdictIsTaken :
    (let s := (checking .taken .ended (some profile7)).modPallet 0 fun p => { p with gross := some 1250 }
     s.cku.state = .capturing ∧ s.cku.track = some 0 ∧ (s.pallet 0).map (fun p => (p.tag, p.gross)) =
      some (some tag7, some 1250) ∧ s.cku.weight = .taken ∧ s.cku.frame = .ended ∧ s.cku.snapshot = some profile7 ∧
      ¬ profile7.tare + tag7.units * profile7.unitWeight + profile7.tolerance < 1250) ∧
    (checking .armed .ended none).cku.weight = .armed ∧ (checking .taken .isOpen none).cku.frame = .isOpen ∧
    (1149 + profile7.tolerance < profile7.tare + tag7.units * profile7.unitWeight) ∧
    (profile7.tare + tag7.units * profile7.unitWeight + profile7.tolerance < 1251) := by decide +kernel

/-- A LABELLED record in DIV2 with the lane wait running. -/
def waitingAtDiv2 : State :=
  (withPallet 0 .div2 { pallet7 with state := .labelled } running).modZnc fun u => { u with laneWait := .running 60 }

theorem test_admits_ZoneTimersExpire :
    (moving.inReset = false ∧ (moving.zone .infeed).state = .leaving ∧ (moving.zone .infeed).partner = some .scan ∧
      (moving.zone .infeed).moveTimer.isRunning = true) ∧
    ((interruptedMove true false).zone .scan).moveTimer = .stopped ∧
    ((departing.zone (.gate 5)).state = .leaving ∧ (departing.zone (.gate 5)).record = none ∧
      (departing.zone (.gate 5)).moveTimer.isRunning = true) ∧
    ((interruptedDeparture true).zone (.gate 0)).moveTimer = .stopped ∧
    (waitingAtDiv2.znc.laneWait.isRunning = true ∧ waitingAtDiv2.occupant .div2 = some 0 ∧
      (waitingAtDiv2.pallet 0).map (·.state) = some .labelled) ∧ running.znc.laneWait = .stopped := by decide +kernel

theorem test_admits_LaneInputsAndMinutes :
    (running.inReset = false ∧ running.taking = true ∧ (running.lane 0).state ≠ .bound) ∧
    (∀ remaining ∈ [1, 2, 240],
      let s := boundLane 0 order5 { LaneRecord.reset with remaining := remaining, minute := .running 0 } running
      (s.lane 0).state = .bound ∧ (s.lane 0).minute = .running 0 ∧ (s.lane 0).order = some 5 ∧ (s.order 5).isSome = true ∧
        (s.lane 0).remaining = remaining) ∧
    (link (some (.answer aReply)) [] [] []).lku.sending.isSome = true := by decide +kernel

/-- The line HALTED with the key in SETUP. -/
def halted : State := (keyIn .setup).modLsv fun v => { v with line := .halted }

theorem test_admits_KeyMovesTheLine :
    (running.inReset = false ∧ running.taking = true ∧ keyReading true false false = running.lsv.key) ∧
    (keyReading false true false ≠ running.lsv.key ∧ running.lsv.line = .running) ∧
    (halted.inReset = false ∧ halted.lsv.line = .halted ∧ keyReading true false false ≠ halted.lsv.key ∧
      keyReading false false true ≠ .run) ∧ stopped.lsv.line = .stopped := by decide +kernel

theorem test_admits_ChainStopsTheLine :
    running.inReset = false ∧ running.taking = true ∧ running.lsv.chainOpen = false ∧
    ((wrapping .working).wrapper .a).state = .wrapping ∧ (labelling .applying .reading).lbu.state = .cycle ∧
    (checking .armed .armed none).cku.state = .capturing ∧
    (running.modLsv fun v => { v with chainOpen := true }).lsv.chainOpen = true ∧
    (let s := checking .armed .armed none
     s.cku.track = some 0 ∧ (s.pallet 0).isSome = true) ∧
    (let s := link (some (.answer aReply)) [] [] []
     s.lku.sending.isSome = true ∧ s.lku.notices.length < 32 ∧ (after .chainOpens s).lku.notices =
      [⟨.line .running .stopped .estopOpened .run true, ⟨0, true⟩, false⟩]) := by decide +kernel

theorem test_admits_WrapFollowsItsPlan :
    (∀ film ∈ [4, 5], let s := (wrapping .idle).modWrapper .a fun r => { r with film := film }
     (s.wrapper .a).load = .track 0 ∧ (s.pallet 0).bind (·.plan) = some recipe1 ∧ (s.wrapper .a).channel.state = .idle ∧
      (s.wrapper .a).abortPending = false ∧ s.lsv.line = .running ∧
      nextPass (some recipe1) 0 false false = some .bottom ∧ PassKind.bottom.isFilm = true ∧ (s.wrapper .a).film = film) ∧
    nextPass (some recipe1) 1 false false = some .cut ∧ nextPass (some recipe1) 1 false true = none ∧
    (let s := withPallet 0 (.wrap .b) { pallet7 with state := .accepted } running
     (s.pallet 0).isSome = true ∧ ((s.handOn (.wrap .b) 0).wrapper .b).state = .discharging) := by decide +kernel

theorem test_admits_StationAnswersAndTimers :
    (let s := wrapping .sent
     s.inReset = false ∧ (s.wrapper .a).channel.state = .sent ∧ (s.wrapper .a).channel.command = some ⟨.bottom, 1⟩ ∧
      (s.wrapper .a).channel.acceptance = true) ∧
    (let s := wrapping .working
     (s.wrapper .a).channel.state = .working ∧ (s.wrapper .a).channel.pass.isRunning = true ∧
      (s.wrapper .a).channel.acceptance = false) ∧
    (let s := wrapping .idle
     (s.wrapper .a).channel.state = .idle ∧ (s.wrapper .a).channel.pass = .stopped) := by decide +kernel

theorem test_admits_StationPassesEnd :
    (let s := wrapping .working
     s.inReset = false ∧ (s.wrapper .a).channel.state ≠ .idle ∧ (s.wrapper .a).channel.command = some ⟨.bottom, 1⟩ ∧
      (s.wrapper .a).load = .track 0 ∧ (s.pallet 0).bind (·.plan) = some recipe1 ∧ (s.wrapper .a).abortCut = false ∧
      (s.wrapper .a).abortPending = false) ∧
    ∀ kind ∈ [PassKind.down, .sheet, .cut],
      let s := (wrapping .sent).modWrapper .a fun r => { r with channel := { r.channel with command := some ⟨kind, 1⟩ } }
      s.inReset = false ∧ (s.wrapper .a).channel.state ≠ .idle ∧ (s.wrapper .a).channel.command = some ⟨kind, 1⟩ ∧
        kind ≠ .statusQuery ∧ (s.wrapper .a).load = .track 0 := by decide +kernel

/-- A wrap with an abort pending, or with the CUT of an abort in flight, and passes done. -/
def aborting (cut : Bool) (c : ChannelState) (done : Nat) : State :=
  ((wrapping c).modWrapper .a fun r => { r with abortPending := true, abortCut := cut }).modPallet 0 fun p => { p with
    passesDone := done }

theorem test_admits_AbortTakesTheWrapperOffline :
    (∀ cut : Bool, ∀ c ∈ [ChannelState.idle, .sent, .working], ∀ done ∈ [0, 1], let s := aborting cut c done
     s.inReset = false ∧ (s.wrapper .a).load = .track 0 ∧ (s.pallet 0).map (fun p => (p.plan, p.passesDone)) =
      some (some recipe1, done) ∧ (s.wrapper .a).sheetDone = false ∧ s.lsv.line = .running ∧
      (s.wrapper .a).channel.state = c ∧ (s.wrapper .a).abortCut = cut ∧ (s.wrapper .a).abortPending = true) ∧
    ((aborting true .working 1).wrapper .a).channel.command = some ⟨.bottom, 1⟩ := by decide +kernel

theorem test_admits_HeadAnswers :
    (labelling .toRead .done).inReset = false ∧ (labelling .toRead .done).faceStep .side ≠ .applying ∧
    (labelling .toRead .done).lbu.applyTimers.face .side = .stopped ∧
    (labelling .toRead .applying).faceStep .fend = .applying ∧
    ((labelling .toRead .applying).lbu.applyTimers.face .fend).isRunning = true := by decide +kernel

theorem test_admits_ReaderAnswers :
    (let s := labelling .reading .toRead
     s.inReset = false ∧ s.lbu.track = some 0 ∧ (s.pallet 0).isSome = true ∧ s.lbu.content.isSome = true ∧
      s.faceStep .side = .reading ∧ s.lbu.readTimer.isRunning = true) ∧
    (let s := labelling .done .reading
     s.faceStep .fend = .reading ∧ s.faceStep .side ≠ .reading ∧ s.lbu.readTimer.isRunning = true) ∧
    (labelling .done .done).lbu.readTimer = .stopped := by decide +kernel

theorem test_admits_CycleGoesOn :
    ((labelling .toApply .applying).lbu.track = some 0 ∧ ((labelling .toApply .applying).pallet 0).isSome = true ∧
      (labelling .toApply .applying).faceStep .side = .toApply) ∧
    (∀ f, (labelling .toRead .applying).faceStep f ≠ .toApply) ∧
    (∀ g, (labelling .waiting .toRead).faceStep g ≠ .toApply ∧ (labelling .waiting .toRead).faceStep g ≠ .applying ∧
      (labelling .waiting .toRead).faceStep g ≠ .reading) ∧
    (∀ f, (labelling .done .done).faceStep f = .done) ∧
    (∀ f, (labelling .done .waiting).faceStep f = .done ∨ (labelling .done .waiting).faceStep f = .waiting) :=
  ⟨by decide +kernel, test_both_faces (by decide +kernel) (by decide +kernel), test_both_faces (by decide +kernel) (by decide +kernel),
    test_both_faces rfl rfl, test_both_faces (.inl rfl) (.inr rfl)⟩

/-- A record arriving in LABEL, numbers left from 0 below the reserved end given. -/
def atLabel (st : PalletState) (serial : Option Nat) (end_ : Nat) : State :=
  (withPallet 0 .label { pallet7 with state := st, serial := serial } running).modLbu fun l => { l with reservedEnd := end_ }

theorem test_admits_LabelWorkBegins :
    ((atLabel .rejected none 0).pallet 0).map (·.state) = some .rejected ∧
    ((atLabel .wrapped (some 5) 1).pallet 0).map (fun p => (p.state, p.orphaned, p.serial)) =
      some (.wrapped, false, some 5) ∧
    (let s := atLabel .wrapped none 1
     s.lbu.block = none ∧ s.lbu.next < s.lbu.reservedEnd) ∧
    (let s := atLabel .wrapped none 0
     s.lbu.reservedEnd ≤ s.lbu.next) ∧
    (let s := (atLabel .wrapped none 0).modPallet 0 fun p => { p with orphaned := true }
     (s.pallet 0).map (fun p => (p.state, p.orphaned)) = some (.wrapped, true) ∧ (s.allocate 0).isSome = false ∧
      ((withOrder order5 s).allocate 0).isSome = true ∧
      ((withOrder order5 s).arriveLabel 0).palletState 0 = some .labelling) ∧
    (∀ site ∈ [.valid ⟨some [0x41], 1⟩ true, .valid ⟨some [0x41], 1⟩ false, .damaged],
     let s := (atLabel .wrapped (some 5) 0).modSdu fun d => { d with site := site }
     ((s.compose 0).1.isSome = true ↔ site = .valid ⟨some [0x41], 1⟩ true)) := by decide +kernel

/-! ### Start-up's verification, the bodies of requests -/

/-- A store that a power loss cut off at the timing entry, with slots of one key whose check words fail. -/
def cutOffStore : Store :=
  { Store.delivered with
    marker := some .timing
    profiles := ((Store.delivered.profiles.set 0 ⟨some 7, .valid profile7 false⟩).set 1 ⟨some 7, .damaged⟩).set 63
      ⟨some 65536, .damaged⟩ }

/-- The reset input asserted over a store. -/
def heldOver (d : Store) : State := { heldInReset with sdu := d }

theorem test_admits_StartUpVerification :
    (let v := cutOffStore.verify
     v.damagedEntries = [.timing, .profile 0, .profile 1, .profile 63] ∧ v.marker = none ∧
      v.inForce = TimingValues.defaults ∧
      ([0, 1, 2, 63] : List (Fin 64)).map (fun i => v.profiles[i].key) = [some 7, none, none, none]) ∧
    (let s := heldOver cutOffStore
     s.lsv.resetInput = true ∧ s.lsv.supply = true ∧ s.lku.notices = [] ∧ s.lku.replies = [] ∧ s.lku.queries = [] ∧
      s.lku.sending = none ∧ s.lsv.resetPending = false ∧ (after .resetInputReleased s).lku.notices.length = 3) ∧
    ({ cutOffStore with profiles := cutOffStore.profiles.set 2 ⟨some 7, .valid profile7 true⟩ }.verify.profiles[(0 : Fin 64)].key
      = none) := by decide +kernel

/-- Every request has one layout, and every request with a field has one reader. -/
theorem test_every_request_has_a_layout :
    (requestCommands.all fun rc => (bodyLayouts.map (·.1)).countP (·.contains rc.request.kind) == 1) = true ∧
    (requestCommands.all fun rc => (bodyChecks.map (·.1)).countP (·.contains rc.request.kind) ==
      if [0x01, 0x03, 0x05, 0x09, 0x0A, 0x0B, 0x0C, 0x2F, 0x36, 0x51].contains rc.request.kind then 0 else 1) = true := by
  decide +kernel

/-- A layout's length, the empty body beside it, and a first bad field for every reader. -/
theorem test_admits_FailingBodies :
    running.hears reqReadPallet = true ∧ (keyIn .setup).hears reqDefineProfile = true ∧
    (keyIn .service).hears reqRecoverSerials = true ∧ running.hears reqNewOrder = true ∧ ([] : List Byte).length ≠ 1 ∧
    [argTrack [25], argTrack [0]].map Checked.failing = [some .outOfRange, some .outOfRange] ∧
    [argNewOrder (u32 1 ++ u8 4 ++ u8 0 ++ textBytes [] ++ u8 0), argNewOrder (u32 1 ++ u8 3 ++ u8 2 ++ textBytes [] ++ u8 0)].map
      Checked.failing = [some .outOfRange, some .malformed] ∧
    (argRecover (textBytes [0x41] ++ u32 0)).failing = some .malformed ∧ (argPrefix [5]).failing = some .malformed ∧
    replyOf (after (.removePallet 9 [0]) running) = some (.outOfRange, []) ∧
    replyOf (after (.setSite 9 [4, 0x41]) (keyIn .setup)) = some (.malformed, []) := by decide +kernel

theorem test_admits_ListAndBookRefusals :
    replyOf (after (.readDispatchList 9 (u32 5 ++ u8 61)) (withOrder order5 running)) = some (.outOfRange, []) ∧
    replyOf (after (.readDispatchList 9 (u32 1000000 ++ u8 1)) running) = some (.outOfRange, []) ∧
    (let s := running.modObk fun b => { b with orders := List.replicate 16 order5 }
     s.hears reqNewOrder = true ∧ 16 ≤ s.obk.orders.length) ∧
    (let s := withOrder { order5 with number := 999999 } running
     s.hears reqNewOrder = true ∧ s.obk.orders.length < 16 ∧ (s.order largestOrder.number).isSome = true) ∧
    replyOf (after (.cancelOrder 9 (u32 5)) running) = some (.notFound, []) ∧
    replyOf (after (.authoriseRelease 9 (u32 5 ++ textBytes [0x58])) running) = some (.notFound, []) := by decide +kernel

/-! ### The orphans of an ended order -/

/-- A record of order 5 in a zone, in a state. -/
def assigned5 (z : Zone) (st : PalletState) : State :=
  withPallet 0 z { pallet7 with state := st, assignment := some ⟨5, 1⟩ } (withOrder order5 running)

/-- The same record waiting in LABEL for its serial. -/
def waiting5 : State := (assigned5 .label .labelling).modLbu fun l => { l with state := .waitSerial, track := some 0 }

theorem test_admits_OrphansDecided :
    (let s := (assigned5 .div2 .labelled).modZnc fun u => { u with laneWait := .running 60 }
     s.occupant .div2 = some 0 ∧ (after (.cancelOrder 9 (u32 5)) s).palletState 0 = some .rejected ∧
      (after (.cancelOrder 9 (u32 5)) s).znc.laneWait = .stopped) ∧
    (let s := assigned5 .label .labelled
     s.occupant .label = some 0 ∧ s.lbu.track = none ∧
      (after (.cancelOrder 9 (u32 5)) s).palletState 0 = some .rejected) ∧
    (waiting5.lbu.state = .waitSerial ∧ waiting5.lbu.track = some 0 ∧
      (after (.cancelOrder 9 (u32 5)) waiting5).palletState 0 = some .rejected ∧
      (after (.cancelOrder 9 (u32 5)) waiting5).lbu.state = .idle) ∧
    (let s := withOrder { order5 with number := 6 } waiting5
     (after (.cancelOrder 9 (u32 5)) s).palletState 0 = some .labelling ∧
      ((after (.cancelOrder 9 (u32 5)) s).pallet 0).bind (·.assignment) = some ⟨6, 1⟩ ∧
      (after (.cancelOrder 9 (u32 5)) s).lbu = s.lbu) ∧
    (let s := (assigned5 .div2 .labelled).putLane 0 { LaneRecord.reset with
       state := .bound, order := some 5, remaining := 1, minute := .running 0 }
     (s.lane 0).remaining ≤ 1 ∧ (after (.minuteTimerExpiry 0) s).palletState 0 = some .rejected) := by decide +kernel

/-! ### The change to RUNNING -/

/-- A cycle suspended by the chain, SIDE to be applied after a number of applies, and wrapper A paused. -/
def suspendedCycle (applies : Nat) : State :=
  ((((labelling .toApply .done).modPallet 0 fun p => { p with faces := ⟨⟨.noRead, applies⟩, ⟨.isMatch, 1⟩⟩ }).modLbu
    fun l => { l with suspended := true }).modLsv fun v => { v with line := .stopped }).putWrapper .a
      { WrapperRecord.reset with state := .paused, pauseCause := some .estop }

theorem test_admits_ChangeToRunning :
    (∀ applies ∈ [1, 2],
      let s := suspendedCycle applies
      s.hears reqRestartLine = true ∧ s.lsv.line = .stopped ∧ s.lsv.key = .run ∧ s.lsv.chainOpen = false ∧
        s.lbu.suspended = true ∧ s.lbu.state = .cycle ∧ s.lbu.track = some 0 ∧ (s.pallet 0).isSome = true ∧
        s.unsuspend.palletState 0 = some (if applies = 2 then .rejected else .labelling) ∧
        (s.unsuspend.faceStep .side = .applying ↔ applies = 1)) ∧
    (let s := suspendedCycle 1
     (s.wrapper .a).state = .paused ∧ (s.wrapper .a).pauseCause = some .estop) ∧
    (let s := stopped.modLbu fun l => { l with suspended := true }
     s.lbu.suspended = true ∧ s.lbu.state ≠ .cycle) ∧ running.lbu.suspended = false ∧
    (after (.keySwitchChange true false false) halted).lku.sending =
      some (.notice ⟨.line .halted .running .keyReturned .run false, halted.now, false⟩) := by decide +kernel

theorem test_admits_UndoneMoves :
    (let s := (stopped.putWrapper .a { WrapperRecord.reset with state := .loading, load := .track 0 }).tellUndone .feed (.wrap .a)
     (s.wrapper .a).state = .idle ∧ (s.wrapper .a).load = .none) ∧
    ((stopped.putWrapper .b { WrapperRecord.reset with state := .discharging, dischargeUnderWay := true }).tellUndone
      (.wrap .b) (.out .b)).wrapper .b = { WrapperRecord.reset with state := .discharging } ∧
    (stopped.tellUndone .sort (.gate 5)).znc.route = some 5 ∧
    ((stopped.modZnc fun u => { u with route := some 5 }).tellUndone .div2 .sort).znc.route = none ∧
    (stopped.wrapper .a).state ≠ .loading := by decide +kernel

theorem test_admits_FullTrack :
    (∀ n, awaitingFull.pallet n ≠ none) ∧ awaitingFull.trt.offLine = [] ∧
    (after (.tagRead none) awaitingFull).lku.sending =
      some (.notice ⟨.zone .untracked .infeed none none (some .trackFull), awaitingFull.now, false⟩) ∧
    ((after (.tagRead none) awaitingFull).zone .infeed).eye = true := by decide +kernel

/-! ### The verdict, the mark copies, the content of a label -/

/-- A check whose results are both in, without a frame or with one counted against the profile. -/
def resultsIn (frame : FrameCapture) (snapshot : Option Profile) (r : Option ProfileResult) : State :=
  (checking .taken frame snapshot).modPallet 0 fun p => { p with gross := some 1200, profile := r }

theorem test_admits_VerdictWithEveryProfile :
    (∀ e ∈ [.empty true, .damaged, .valid profile7 true, .valid profile7 false],
      let s := withProfile e (resultsIn .timedOut none none)
      s.cku.frame = .timedOut ∧ s.sdu.slotOf 7 = some 0 ∧ s.sdu.profiles[(0 : Fin 64)].entry = e ∧
        ((s.tryVerdict.pallet 0).map (·.reasons) = some [.noDemand] ↔ e = .valid profile7 true)) ∧
    (resultsIn .timedOut none none).sdu.slotOf 7 = none ∧
    (((resultsIn .ended (some profile7) (some ⟨6, 6, 0, 1201, false, false⟩)).tryVerdict.pallet 0).map (·.reasons) =
      some [.overhang, .underfill, .overHeight]) ∧
    (((resultsIn .ended (some profile7) (some ⟨5, 5, 0, 1200, false, false⟩)).tryVerdict.pallet 0).map (·.reasons) =
      some [.noDemand]) ∧
    (let s := (resultsIn .ended none none).modPallet 0 fun p => { p with tag := none }
     (s.tryVerdict.pallet 0).map (·.reasons) = some [.noTag]) ∧
    (let s := (withOrder order5 (resultsIn .ended none none)).modSdu fun d => { d with recipes := d.recipes.set 0 (.valid recipe1 true) }
     let t := (s.modCku fun c => { c with recipe := some 1 }).tryVerdict
     (t.pallet 0).map (fun p => (p.plan, p.assignment)) = some (some recipe1, some ⟨5, 1⟩)) ∧
    (∀ e ∈ [.empty true, .damaged, .valid recipe1 false],
      let s := (checking .taken .ended none).modSdu fun d => { d with recipes := d.recipes.set 15 e }
      ((s.copyPlan 0 (some 16)).pallet 0).map (·.recipeMissing) = some true) := by decide +kernel

theorem test_admits_MarkCopies :
    (writeCopy 9 .new ⟨⟨1, 3, true⟩, ⟨2, 3, true⟩⟩ = ⟨⟨9, 4, true⟩, ⟨2, 3, true⟩⟩) ∧
    (writeCopy 9 .new ⟨⟨1, 4, true⟩, ⟨2, 3, true⟩⟩ = ⟨⟨1, 4, true⟩, ⟨9, 5, true⟩⟩) ∧
    (writeCopy 9 .broken ⟨⟨1, 3, false⟩, ⟨2, 3, false⟩⟩ = ⟨⟨1, 3, false⟩, ⟨2, 3, false⟩⟩) ∧
    markFloor ⟨⟨1, 4, true⟩, ⟨2, 3, true⟩⟩ = some 2 ∧ markFloor ⟨⟨1, 4, false⟩, ⟨2, 3, false⟩⟩ = none := by decide

theorem test_admits_ContentOfALabel :
    (∀ e ∈ [.empty true, .damaged, .valid profile7 true, .valid profile7 false],
      let s := withProfile e ((atLabel .wrapped (some 5) 1).modSdu fun d => { d with
        site := .valid ⟨some [0x41, 0x42, 0x43, 0x44], 1⟩ true })
      (s.pallet 0).bind (·.tag) = some tag7 ∧ s.sdu.slotOf 7 = some 0 ∧ s.sdu.profiles[(0 : Fin 64)].entry = e ∧
        (s.compose 0).1.map (·.name) = some (if e = .valid profile7 true then [0x41] else [])) ∧
    (atLabel .wrapped (some 5) 1).sdu.slotOf 7 = none ∧
    (let s := running.modLbu fun l => { l with block := some .siteDamaged }
     (s.waitForSerial 0).lku.notices = [⟨.store .damaged .site none (some 0) 0 0, s.now, false⟩]) ∧
    running.lbu.block ≠ some .siteDamaged ∧
    (let s := running.modSdu fun d => { d with reservation := .waiting }
     s.sdu.reservation = .waiting ∧ (s.damageAtRead .site).lku.notices.length = 2) ∧
    decimal 100 = [0x31, 0x30, 0x30] ∧ decimal 999999 = List.replicate 6 0x39 ∧
    digits 8 99999999 = List.replicate 8 0x39 := by decide +kernel

end Sys2Proof.Tests
end

namespace Sys2Proof.Machine

namespace State

/-- A record that enters a state: the record written with its state, and its PALLET notice. -/
theorem enter_of {n : TrackNo} {p : Pallet} {s : State} (h : s.pallet n = some p) (st : PalletState)
    (event : PalletEvent) : s.enter n st event =
      (s.putPallet n (some { p with state := st })).notify (palletEvent event n { p with state := st } (some st)) := by
  simp [enter, h]

/-- RETURN PALLET taken (R18). -/
theorem returnPallet_of {n : TrackNo} {p : Pallet} {s : State} (h : s.pallet n = some p) :
    s.returnPallet n = (((s.modTrt fun t => { t with offLine := t.offLine ++ [n] }).freeZone (.sp 3)).putPallet n
      (some { p with state := .offLine, location := none })).notify
        (.pallet .returned n (some .offLine) p.serial none false []) := by
  let u := ((s.modPallet n fun q => { q with location := none }).modTrt fun t =>
    { t with offLine := t.offLine ++ [n] }).freeZone (.sp 3)
  have hu : u.pallet n = some { p with location := none } := by
    show (s.modPallet n _).pallet n = _
    simp [h]
  have hput : u.putPallet n (some { p with state := .offLine, location := none }) =
      ((s.modTrt fun t => { t with offLine := t.offLine ++ [n] }).freeZone (.sp 3)).putPallet n
        (some { p with state := .offLine, location := none }) := by
    simp [u, modPallet_of h, freeZone, modZone, putPallet, modTrt, putZone, modZnc, zone]
  exact (enter_of hu .offLine .returned).trans (congrArg _ hput)

/-- The checks of R17 on a record, in the order written. -/
theorem returnCheck_of {n : TrackNo} {p : Pallet} {s : State} (h : s.pallet n = some p) : s.returnCheck n =
    if p.state = .rejected ∧ p.location = some (.sp 3) ∧ p.tag.isSome = true ∧ p.attempts < 3 then
      if (s.zone (.sp 3)).eye then some .palletPresent else none
    else some .wrongState := by
  simp only [returnCheck, h]; rfl

end State
open State

/-- Settles O24: by the outcomes of `returnCheck`. -/
theorem palletIsReturned : Obligations.PalletIsReturned := by
  intro s tag n hears
  have answered {u : State} {st : Status} (h : actReturnPallet n s = (u, .now st [])) :
      exec (.returnPallet tag (u8 n.number)) s = .next (u.replied tag 0x2C st []) :=
    congrArg Host.Outcome.next (heard hears (by rw [← h]; simp [reqReturnPallet]))
  refine ⟨fun h => answered (by simp [actReturnPallet, returnCheck, h]), fun p h => ?_⟩
  have check := returnCheck_of h
  refine ⟨fun hmay => answered ?_, fun hmay heye => answered ?_, fun hmay heye => ?_⟩
  · rw [if_neg hmay] at check
    simp [actReturnPallet, check]
  · rw [if_pos hmay, heye] at check
    simp [actReturnPallet, check]
  · rw [if_pos hmay, heye] at check
    rw [← returnPallet_of h]
    exact answered (by simp [actReturnPallet, check])

end Sys2Proof.Machine

namespace Sys2Proof.Machine

namespace State

theorem putPallet_self {n : TrackNo} {p : Option Pallet} {s : State} (h : s.pallet n = p) : s.putPallet n p = s := by
  subst h
  simp [putPallet, modTrt, pallet]

/-- The place in an order that an assignment names, given back (R34). -/
def releaseLine (a : Option Assignment) (s : State) : State :=
  match a with
  | some a => s.modOrder a.order (Order.modLine a.line fun l => { l with assigned := l.assigned - 1 })
  | none => s

/-- Giving a place back changes the book only. -/
@[simp] theorem releaseLine_frame (a : Option Assignment) (s : State) :
    (s.releaseLine a).trt = s.trt ∧ (s.releaseLine a).cku = s.cku ∧ (s.releaseLine a).znc = s.znc ∧
    (s.releaseLine a).wsq = s.wsq ∧ (s.releaseLine a).lbu = s.lbu ∧ (s.releaseLine a).lnu = s.lnu ∧
    (s.releaseLine a).sdu = s.sdu ∧ (s.releaseLine a).lku = s.lku ∧ (s.releaseLine a).lsv = s.lsv ∧
    (s.releaseLine a).pins = s.pins ∧ (s.releaseLine a).ports = s.ports ∧
    (s.releaseLine a).freeCount = s.freeCount ∧ (s.releaseLine a).pending = s.pending := by
  cases a <;> simp [releaseLine]

theorem releaseLine_putPallet (a : Option Assignment) (n : TrackNo) (p : Option Pallet) (s : State) :
    (s.putPallet n p).releaseLine a = (s.releaseLine a).putPallet n p := by
  cases a <;> rfl

/-- A record's assignment released: its place given back and its assignment none. -/
theorem releaseAssignment_of {n : TrackNo} {p : Pallet} {s : State} (h : s.pallet n = some p) :
    s.releaseAssignment n = (s.releaseLine p.assignment).putPallet n (some { p with assignment := none }) := by
  cases ha : p.assignment with
  | none =>
    have hp : some { p with assignment := none } = some p := by rw [← ha]
    rw [hp, releaseLine, putPallet_self h]
    simp [releaseAssignment, h, ha]
  | some a =>
    have hm : (s.releaseLine (some a)).pallet n = some p := (pallet_congr (by simp) n).trans h
    rw [← modPallet_of hm fun p => { p with assignment := none }]
    simp [releaseAssignment, h, ha, releaseLine]

theorem addReasonTo_of {n : TrackNo} {p : Pallet} {s : State} (h : s.pallet n = some p) (r : Reason) :
    s.addReasonTo n r = s.putPallet n (some { p with reasons := addReason r p.reasons }) := modPallet_of h _

/-- A rejection without a reason of its own. -/
theorem reject_none_of {n : TrackNo} {p : Pallet} {s : State} (h : s.pallet n = some p) :
    s.reject n none = ((s.releaseLine p.assignment).putPallet n (some { p with
      state := .rejected, assignment := none, reasons := rejectReasons none p })).notify
        (.pallet .rejected n (some .rejected) p.serial none false (rejectReasons none p)) := by
  let q : Pallet := { p with assignment := none, reasons := rejectReasons none p }
  have limited : (match (s.releaseAssignment n).pallet n with
      | some p => if p.attempts = Config.attemptLimit
        then (s.releaseAssignment n).addReasonTo n .reworkLimit else s.releaseAssignment n
      | none => s.releaseAssignment n) = (s.releaseLine p.assignment).putPallet n (some q) := by
    have hr : (s.releaseAssignment n).pallet n = some { p with assignment := none } := by
      rw [pallet_releaseAssignment h, if_pos rfl]
    rw [hr]
    by_cases hl : p.attempts = Config.attemptLimit
    · simp only [hl, if_true]
      rw [addReasonTo_of hr, releaseAssignment_of h, putPallet_putPallet]
      simp only [q, rejectReasons, hl, if_true]
    · simp only [hl, if_false]
      rw [releaseAssignment_of h]
      simp only [q, rejectReasons, hl, if_false]
  have hq : ((s.releaseLine p.assignment).putPallet n (some q)).pallet n = some q := by simp
  calc s.reject n none = ((s.releaseLine p.assignment).putPallet n (some q)).enter n .rejected .rejected :=
        congrArg (enter n .rejected .rejected) limited
    _ = _ := by rw [enter_of hq, putPallet_putPallet]; rfl

/-- A record rejected, whole (R5, R7, R14, R34). -/
theorem reject_of {n : TrackNo} {p : Pallet} {s : State} (h : s.pallet n = some p) (reason : Option Reason) :
    s.reject n reason = ((s.releaseLine p.assignment).putPallet n (some { p with
      state := .rejected, assignment := none, reasons := rejectReasons reason p })).notify
        (.pallet .rejected n (some .rejected) p.serial none false (rejectReasons reason p)) := by
  cases reason with
  | none => exact reject_none_of h
  | some r =>
    have hr : (s.addReasonTo n r).pallet n = some { p with reasons := addReason r p.reasons } := by
      rw [pallet_addReasonTo h, if_pos rfl]
    calc s.reject n (some r) = (s.addReasonTo n r).reject n none := rfl
      _ = _ := by
        rw [reject_none_of hr, addReasonTo_of h, releaseLine_putPallet, putPallet_putPallet]
        rfl

/-! ### The check -/

theorem palletState_of {n : TrackNo} {p : Pallet} {s : State} (h : s.pallet n = some p) :
    s.palletState n = some p.state := by
  simp [palletState, h]

/-- An ENTERING record armed in SCAN (R51). -/
theorem arm_of {n : TrackNo} {p : Pallet} {s : State} (h : s.pallet n = some p) (he : p.state = .entering) :
    s.arm n = (s.putPallet n (some { p with state := .checking, attempts := p.attempts + 1 })).modCku fun c => { c with
      state := .capturing, weight := .armed, frame := .armed, weightTimer := .running s.sdu.inForce.weight,
      scanTimer := .running s.sdu.inForce.scan, track := some n, snapshot := none, rows := 0,
      counts := ⟨0, 0, 0, 0⟩, recipe := none, holdEnded := c.holdEnded.filter (· != n) } := by
  simp only [arm, palletState_of h, he, if_true, modPallet_of h, armCaptures, modCku]
  rfl

theorem arm_of_not_entering {n : TrackNo} {p : Pallet} {s : State} (h : s.pallet n = some p)
    (he : p.state ≠ .entering) : s.arm n = s := by
  simp [arm, palletState_of h, he]

/-- The check is over with the decision in DIV1 (R65). -/
def endCheck (s : State) : State := s.modCku fun c => { c with state := .idle, track := none, snapshot := none }

/-- The decision in DIV1 by the record's reasons and attempts (R65). -/
theorem decideAtDiv1_of {n : TrackNo} {p : Pallet} {s : State} (ht : s.cku.track = some n) (h : s.pallet n = some p) :
    s.decideAtDiv1 n = endCheck (if p.reasons.isEmpty then s.enter n .accepted .accepted
      else if p.reasons.all Reason.overridable && decide (p.attempts < Config.attemptLimit) then s.hold n
      else s.reject n none) := by
  simp only [decideAtDiv1, ht, h, if_true]
  rfl

theorem all_overridable_iff {rs : List Reason} : rs.all Reason.overridable = true ↔ ∀ r ∈ rs, r.code ≤ 9 := by
  simp [Reason.overridable]

/-- A record held at DIV1 with its timer and its query (R66). -/
theorem hold_of {n : TrackNo} {p : Pallet} {s : State} (h : s.pallet n = some p) :
    s.hold n = (((s.modCku fun c => { c with
        holdTrack := some n, holdRecipe := c.recipe, holdTimer := .running s.sdu.inForce.hold }).putPallet n
          (some { p with state := .held })).notify (.pallet .held n (some .held) p.serial none false [])).ask
            (.holdDecision n p.reasons s.sdu.inForce.hold) := by
  have hc : ∀ f : CheckUnit → CheckUnit, (s.modCku f).pallet n = some p := fun _ => h
  simp only [hold, enter_of (hc _), pallet_notify, pallet_putPallet, if_true, notify_frame]
  rfl

end State
open State

/-- Settles O34: from the rules for `reject`, `arm` and `decideAtDiv1`. -/
theorem checkedRecordIsDecided : Obligations.CheckedRecordIsDecided := by
  refine ⟨fun s n p reason h => ?_, fun s n p h => ⟨arm_of_not_entering h, arm_of h⟩,
    fun s n => ⟨rfl, fun ht => if_neg ht⟩, fun s n p ht h => ?_⟩
  · have hr := pallet_reject h reason
    have whole := reject_of h reason
    refine ⟨(hr n).trans (if_pos rfl), fun m hm => (hr m).trans (if_neg hm), ?_, fun hroom => ?_, fun b hb => ?_⟩
    · rw [whole]
      simp only [notify_frame]
      cases p.assignment <;> rfl
    · rw [whole, notify_notices (by simpa [putPallet] using hroom)]
      simp [putPallet, now]
      rfl
    · cases b <;> simp [Block.same] at hb ⊢
  · have decided := decideAtDiv1_of ht h
    refine ⟨fun hrs => ?_, fun hrs hall hatt => ?_, fun hrs hbad => ?_⟩
    · rw [decided, enter_of h]
      simp [palletEvent, endCheck, hrs]
    · have h9 := all_overridable_iff.mpr hall
      rw [decided, ← hold_of h]
      simp [hrs, h9, hatt, Config.attemptLimit, endCheck]
    · have hno : (p.reasons.all Reason.overridable && decide (p.attempts < Config.attemptLimit)) = false := by
        rcases hbad with ⟨r, hr, h9⟩ | h3
        · have : p.reasons.all Reason.overridable ≠ true :=
            fun hall => absurd (all_overridable_iff.mp hall r hr) (Nat.not_le.mpr h9)
          simp [this]
        · exact Bool.and_eq_false_iff.mpr (.inr (decide_eq_false (Nat.not_lt.mpr h3)))
      rw [decided]
      simp [hrs, hno, endCheck]

end Sys2Proof.Machine

namespace Sys2Proof.Machine

namespace State

/-! ### Eyes (R80) -/

theorem putZone_comm {z y : Zone} (h : z ≠ y) (r q : ZoneRecord) (s : State) :
    (s.putZone z r).putZone y q = (s.putZone y q).putZone z r := by
  have hi : z.idx.val ≠ y.idx.val := fun e => h (Zone.idx_injective z y (Fin.ext e))
  simp only [putZone, modZnc]
  rw [Vector.set_comm _ _ hi]

theorem eyeIsMade_again {z : Zone} {s : State} (h : (s.zone z).eye = true) : s.eyeIsMade z = s := by
  simp [eyeIsMade, h]

/-- A pallet seen in a FREE IN begins the tag wait (R9). -/
theorem eyeIsMade_infeed {s : State} (h : (s.zone .infeed).eye = false) (hf : (s.zone .infeed).state = .free) :
    s.eyeIsMade .infeed = (s.putZone .infeed { ZoneRecord.free with eye := true, state := .awaitingTag }).modTrt
      fun t => { t with tagTimer := .running s.sdu.inForce.tag } := by
  simp only [eyeIsMade, h, hf, eyeInFree, modZone, zone_putZone, putZone_putZone, if_true]
  rfl

/-- A pallet seen in any other FREE zone is a stray (R80). -/
theorem eyeIsMade_stray {z : Zone} {s : State} (hz : z ≠ .infeed) (h : (s.zone z).eye = false)
    (hf : (s.zone z).state = .free) :
    s.eyeIsMade z = (s.putZone z { ZoneRecord.free with eye := true, state := .untracked }).notify
      (.zone .untracked z none none (some .stray)) := by
  simp [eyeIsMade, h, hf, eyeInFree, hz, modZone, untrackZone, zoneNotice]

theorem freeZone_of_clear {z : Zone} {s : State} (h : (s.zone z).eye = false) :
    s.freeZone z = s.putZone z ZoneRecord.free := by
  simp only [freeZone, modZone, h]
  rfl

theorem vacate_of_clear {z : Zone} {s : State} (h : (s.zone z).eye = false) :
    s.vacate z = s.putZone z ZoneRecord.free := by
  rw [vacate, freeZone_of_clear h]
  simp [ZoneRecord.free]

/-- A move ends in arrival where its record is seen, its source FREE when the eye there is clear (R83). -/
theorem eyeIsMade_arrival {z src : Zone} {n : TrackNo} {s : State} (h : (s.zone z).eye = false)
    (hr : (s.zone z).state = .reserved) (hi : (s.zone z).interrupted = false) (hn : (s.zone z).record = some n)
    (hp : (s.zone z).partner = some src) (hne : src ≠ z) (hs : (s.zone src).eye = false) :
    s.eyeIsMade z = (((s.putZone src ZoneRecord.free).putZone z { ZoneRecord.free with
      eye := true, state := .occupied, record := some n }).modPallet n fun p =>
        { p with location := some z }).handOn z n := by
  let seen := s.modZone z fun r => { r with eye := true }
  have hsrc : (seen.zone src).eye = false := by simp [seen, hne, hs]
  have arrives : s.eyeIsMade z = seen.arrive src z n := by simp [eyeIsMade, h, hr, hn, hp, hi, seen]
  rw [arrives, arrive, occupy, vacate_of_clear hsrc]
  simp only [seen, modZone]
  rw [putZone_comm hne.symm, putZone_putZone]
  simp

/-- In every other case only the eye is recorded. -/
theorem eyeIsMade_seen {z : Zone} {s : State} (h : (s.zone z).eye = false) (hf : (s.zone z).state ≠ .free)
    (hr : (s.zone z).state ≠ .reserved ∨ (s.zone z).interrupted = true) :
    s.eyeIsMade z = s.putZone z { s.zone z with eye := true } := by
  have hm : s.modZone z (fun r => { r with eye := true }) = s.putZone z { s.zone z with eye := true } := rfl
  simp only [eyeIsMade, h, hm]
  cases hst : (s.zone z).state with
  | free => exact absurd hst hf
  | reserved =>
    have hi : (s.zone z).interrupted = true := hr.resolve_left fun hn => hn hst
    cases (s.zone z).record <;> cases (s.zone z).partner <;> simp [hi]
  | _ => simp

theorem eyeIsCleared_again {z : Zone} {s : State} (h : (s.zone z).eye = false) : s.eyeIsCleared z = s := by
  simp [eyeIsCleared, h]

/-- The pallet at IN leaves before its tag is read (R9). -/
theorem eyeIsCleared_awaiting {z : Zone} {s : State} (h : (s.zone z).eye = true)
    (ha : (s.zone z).state = .awaitingTag) :
    s.eyeIsCleared z = (s.putZone z ZoneRecord.free).modTrt fun t => { t with tagTimer := .stopped } := by
  simp [eyeIsCleared, h, ha, freeZone, modZone]
  rfl

/-- A gate departure ends (R97). -/
theorem eyeIsCleared_departure {g : Lane} {s : State} (h : (s.zone (.gate g)).eye = true)
    (hl : (s.zone (.gate g)).state = .leaving) (hn : (s.zone (.gate g)).record = none)
    (hi : (s.zone (.gate g)).interrupted = false) :
    s.eyeIsCleared (.gate g) = (s.putZone (.gate g) ZoneRecord.free).modZnc fun u =>
      { u with gates := u.gates.set g false } := by
  simp [eyeIsCleared, h, hl, hn, hi, freeZone, modZone, closeGate]
  rfl

theorem eyeIsCleared_seen {z : Zone} {s : State} (h : (s.zone z).eye = true) (ha : (s.zone z).state ≠ .awaitingTag)
    (hd : ¬ ∃ g, z = .gate g ∧ (s.zone z).state = .leaving ∧ (s.zone z).record = none ∧
      (s.zone z).interrupted = false) :
    s.eyeIsCleared z = s.putZone z { s.zone z with eye := false } := by
  have hm : s.modZone z (fun r => { r with eye := false }) = s.putZone z { s.zone z with eye := false } := rfl
  simp only [eyeIsCleared, h, hm, if_true]
  cases hst : (s.zone z).state with
  | awaitingTag => exact absurd hst ha
  | leaving =>
    cases z with
    | gate g =>
      have hno : ((s.zone (.gate g)).record.isNone && !(s.zone (.gate g)).interrupted) = false := by
        simpa [hst] using hd
      simp [hno]
    | _ => simp
  | _ => simp

end State
open State

/-- An eye made, taken: what the zone controller makes of it, then the moves and the transmitter's choice. -/
theorem exec_eyeMade_taken {s t : State} {z : Zone} (h : s.inReset = false) (ht : s.taking = true)
    (hm : (s.modPins fun p => { p with eyes := p.eyes.set z.idx true }).eyeIsMade z = t) :
    exec (.eyeMade z) s = .next t.settle.pump := by
  subst hm
  exact congrArg Host.Outcome.next (arrival_of _ h ht)

theorem exec_eyeCleared_taken {s t : State} {z : Zone} (h : s.inReset = false) (ht : s.taking = true)
    (hc : (s.modPins fun p => { p with eyes := p.eyes.set z.idx false }).eyeIsCleared z = t) :
    exec (.eyeCleared z) s = .next t.settle.pump := by
  subst hc
  exact congrArg Host.Outcome.next (arrival_of _ h ht)

/-- A field arrival that is not taken writes its input alone. -/
theorem arrival_writes_pins {s : State} (h : s.inReset = true ∨ s.lsv.line = .powerUp) (g : Pins → Pins)
    (f : State → State) :
    (.next ((s.modPins g).arrival f) : Host.Outcome State Fault Refusal) = .next (s.modPins g) :=
  congrArg Host.Outcome.next (arrival_not_taken f (h.imp id fun hp => by simp [taking, hp]))

theorem arrival_discarded {s : State} (h : s.inReset = true ∨ s.lsv.line = .powerUp) (f : State → State) :
    (.next (s.arrival f) : Host.Outcome State Fault Refusal) = .next s :=
  congrArg Host.Outcome.next (arrival_not_taken f (h.imp id fun hp => by simp [taking, hp]))

/-- Settles O41: by the cases of `eyeIsMade` and `eyeIsCleared`. -/
theorem eyesAreTaken : Obligations.EyesAreTaken := by
  refine ⟨fun s z h ht => ⟨fun he => ?_, fun he => ⟨fun hf => ?_, fun n src hr hi hn hp hne hs => ?_, fun hf hr => ?_⟩⟩,
    fun s z h ht => ⟨fun he => ?_, fun he => ⟨fun ha => ?_, fun g hz hl hn hi => ?_, fun ha hd => ?_⟩⟩,
    fun s z n a b c hno => ?_⟩
  · exact exec_eyeMade_taken h ht (eyeIsMade_again he)
  · by_cases hz : z = .infeed
    · subst hz
      rw [if_pos rfl]
      exact exec_eyeMade_taken h ht (eyeIsMade_infeed he hf)
    · rw [if_neg hz]
      exact exec_eyeMade_taken h ht (eyeIsMade_stray hz he hf)
  · exact exec_eyeMade_taken h ht (eyeIsMade_arrival he hr hi hn hp hne hs)
  · exact exec_eyeMade_taken h ht (eyeIsMade_seen he hf hr)
  · exact exec_eyeCleared_taken h ht (eyeIsCleared_again he)
  · exact exec_eyeCleared_taken h ht (eyeIsCleared_awaiting he ha)
  · subst hz
    exact exec_eyeCleared_taken h ht (eyeIsCleared_departure he hl hn hi)
  · exact exec_eyeCleared_taken h ht (eyeIsCleared_seen he ha hd)
  · have written := arrival_writes_pins hno
    have discarded := arrival_discarded hno
    exact ⟨written _ _, written _ _, written _ _, written _ _, written _ _, written _ _, fun _ => discarded _,
      fun _ _ => discarded _, discarded _, fun _ _ => discarded _, discarded _⟩

end Sys2Proof.Machine

namespace Sys2Proof.Machine

namespace State

/-! ### Reading a stored entry (R165, R166) -/

/-- A profile entry found with a failing check word (R165). -/
theorem damageAtRead_profile (i : Fin 64) (s : State) : s.damageAtRead (.profile i) =
    (s.modSdu fun d => { d with profiles := d.profiles.set i { d.profiles[i] with entry := .damaged } }).notify
      (.store .damaged (.profile i) s.sdu.profiles[i].key none 0 0) := by
  have key : (s.sdu.mark (.profile i)).keyOf (.profile i) = s.sdu.profiles[i].key := by simp [Store.mark, Store.keyOf]
  exact congrArg (fun k => (s.modSdu (Store.mark (.profile i))).notify (.store .damaged (.profile i) k none 0 0)) key

/-- A recipe entry found with a failing check word (R165). -/
theorem damageAtRead_recipe (i : Fin 16) (s : State) : s.damageAtRead (.recipe i) =
    (s.modSdu fun d => { d with recipes := d.recipes.set i .damaged }).notify
      (.store .damaged (.recipe i) none none 0 0) := rfl

section
variable {α : Type} {id : EntryId} {e : Entry α} {a : α} {s : State}

theorem readEntry_valid : s.readEntry id (.valid a true) = (.valid a true, s) := rfl

theorem readEntry_failing : s.readEntry id (.valid a false) = (.damaged, s.damageAtRead id) := rfl

/-- An EMPTY or a DAMAGED entry reads as it stands. -/
theorem readEntry_not_valid (h : (∃ holds, e = .empty holds) ∨ e = .damaged) : s.readEntry id e = (e, s) := by
  rcases h with ⟨holds, rfl⟩ | rfl <;> rfl

end

section
variable {product : Nat} {i : Fin 64} {f : Profile} {s : State}

theorem readProfileOf_no_slot (h : s.sdu.slotOf product = none) : s.readProfileOf product = (.empty true, s) := by
  simp [readProfileOf, h]

theorem readProfileOf_slot (h : s.sdu.slotOf product = some i) :
    s.readProfileOf product = s.readEntry (.profile i) s.sdu.profiles[i].entry := by
  simp [readProfileOf, h]

theorem readProfileOf_valid (h : s.sdu.slotOf product = some i) (he : s.sdu.profiles[i].entry = .valid f true) :
    s.readProfileOf product = (.valid f true, s) := by
  rw [readProfileOf_slot h, he, readEntry_valid]

theorem readProfileOf_not_valid (h : s.sdu.slotOf product = some i)
    (he : (∃ holds, s.sdu.profiles[i].entry = .empty holds) ∨ s.sdu.profiles[i].entry = .damaged) :
    s.readProfileOf product = (s.sdu.profiles[i].entry, s) := by
  rw [readProfileOf_slot h, readEntry_not_valid he]

theorem readProfileOf_failing (h : s.sdu.slotOf product = some i) (he : s.sdu.profiles[i].entry = .valid f false) :
    s.readProfileOf product = (.damaged, (s.modSdu fun d => { d with
      profiles := d.profiles.set i { d.profiles[i] with entry := .damaged } }).notify
        (.store .damaged (.profile i) s.sdu.profiles[i].key none 0 0)) := by
  rw [readProfileOf_slot h, he, readEntry_failing, damageAtRead_profile]

end

/-- Reading a profile leaves the label unit as it was. -/
@[simp] theorem readProfileOf_lbu (product : Nat) (s : State) : (s.readProfileOf product).2.lbu = s.lbu := by
  cases h : s.sdu.slotOf product with
  | none => rw [readProfileOf_no_slot h]
  | some i =>
    rw [readProfileOf_slot h]
    cases s.sdu.profiles[i].entry with
    | valid f holds =>
      cases holds
      · rw [readEntry_failing, damageAtRead_profile]; simp
      · rfl
    | _ => rfl

/-! ### Profiles wanted (R72) -/

/-- A record waits for the profile of its product, with one query outstanding for the product. -/
def joinWaiters (product : Nat) (n : TrackNo) (s : State) : State :=
  if s.profileAsked product = true then
    s.modCku fun c => { c with waiters := c.waiters.map fun w =>
      if w.product = product ∧ n ∉ w.tracks then { w with tracks := w.tracks ++ [n] } else w }
  else (s.ask (.profileWanted product n)).modCku fun c => { c with waiters := c.waiters ++ [⟨product, [n]⟩] }

section
variable {n : TrackNo} {p : Pallet} {g : Tag} {s u : State} {e : Entry Profile}

theorem wantProfile_no_tag (h : s.pallet n = some p) (hg : p.tag = none) : s.wantProfile n = s := by
  simp [wantProfile, h, hg]

/-- A VALID profile that reads whole is not asked for. -/
theorem wantProfile_valid {f : Profile} {holds : Bool} (h : s.pallet n = some p) (hg : p.tag = some g)
    (hr : s.readProfileOf g.product = (.valid f holds, u)) : s.wantProfile n = u := by
  simp [wantProfile, h, hg, hr]

/-- Without one the record waits, with the query for its product. -/
theorem wantProfile_missing (h : s.pallet n = some p) (hg : p.tag = some g)
    (hr : s.readProfileOf g.product = (e, u)) (he : (∃ holds, e = .empty holds) ∨ e = .damaged) :
    s.wantProfile n = u.joinWaiters g.product n := by
  rcases he with ⟨holds, rfl⟩ | rfl <;> simp [wantProfile, h, hg, hr, joinWaiters]

end

/-- Handing a tag to the check leaves the label unit as it was. -/
@[simp] theorem wantProfile_lbu (n : TrackNo) (s : State) : (s.wantProfile n).lbu = s.lbu := by
  cases hp : s.pallet n with
  | none => simp [wantProfile, hp]
  | some p =>
    cases hg : p.tag with
    | none => rw [wantProfile_no_tag hp hg]
    | some g =>
      have hl := readProfileOf_lbu g.product s
      cases hr : s.readProfileOf g.product with
      | mk e u =>
        rw [hr] at hl
        rw [← hl]
        cases e with
        | valid f holds => rw [wantProfile_valid hp hg hr]
        | empty holds =>
          rw [wantProfile_missing hp hg hr (.inl ⟨holds, rfl⟩)]; simp [joinWaiters, apply_ite State.lbu]
        | damaged => rw [wantProfile_missing hp hg hr (.inr rfl)]; simp [joinWaiters, apply_ite State.lbu]

end State

end Sys2Proof.Machine

namespace Sys2Proof.Machine

namespace State

/-! ### What the start of moves leaves of IN -/

/-- After the move IN to SCAN no start of a move touches IN (R81). -/
theorem movesOnly_startMoves_past_infeed (s : State) : MovesOnly (· ≠ .infeed) (· ≠ .infeed)
    (s.tryMove .infeed .scan (·.state == .entering)) s.startMoves := by
  have past {src dst : Zone → Prop} {u v : State} (h : MovesOnly src dst u v) (hs : ¬ src .infeed)
      (hd : ¬ dst .infeed) : MovesOnly (· ≠ .infeed) (· ≠ .infeed) u v :=
    h.mono (fun _ hz e => hs (e ▸ hz)) (fun _ hz e => hd (e ▸ hz))
  have row {src dst : Zone} (h : src ≠ dst) (hs : src ≠ .infeed) (hd : dst ≠ .infeed) (ok : Pallet → Bool)
      (u : State) : MovesOnly (· ≠ .infeed) (· ≠ .infeed) u (u.tryMove src dst ok) :=
    past (movesOnly_tryMove h ok u) hs.symm hd.symm
  have next {u v w : State} (h : MovesOnly (· ≠ .infeed) (· ≠ .infeed) u v)
      (h' : MovesOnly (· ≠ .infeed) (· ≠ .infeed) v w) : MovesOnly (· ≠ .infeed) (· ≠ .infeed) u w :=
    (h.trans h').mono (fun _ h => h.elim id id) (fun _ h => h.elim id id)
  unfold startMoves
  refine next (next (next (next (next (next (next (next (next (next (next (next (next
    (row ?_ ?_ ?_ _ _) (row ?_ ?_ ?_ _ _)) (past (movesOnly_split _) ?_ ?_))
    (past (movesOnly_discharge .a _) ?_ ?_)) (past (movesOnly_discharge .b _) ?_ ?_))
    (past (movesOnly_grantMerge _) ?_ ?_)) (row ?_ ?_ ?_ _ _)) (row ?_ ?_ ?_ _ _))
    (past (movesOnly_moveToSort _) ?_ ?_)) (past (movesOnly_grantSpur _) ?_ ?_))
    (past (movesOnly_moveToGate _) ?_ ?_)) (row ?_ ?_ ?_ _ _)) (row ?_ ?_ ?_ _ _)) (row ?_ ?_ ?_ _ _)
  all_goals simp

/-- The record in IN stays in its zone record, whether its move into SCAN starts or not. -/
theorem settle_infeed_record (s : State) :
    (s.settle.zone .infeed).record = (s.zone .infeed).record := by
  have first : ((s.tryMove .infeed .scan (·.state == .entering)).zone .infeed).record = (s.zone .infeed).record := by
    rw [tryMove_eq]
    split
    · split
      · rw [zone_startMove (by simp), if_pos rfl]
      · rfl
    · rfl
  rw [zone_settle, (movesOnly_startMoves_past_infeed s).other (by simp) (by simp), first]

/-- A zone that is neither OCCUPIED nor FREE is left as it is at the end of an event. -/
theorem settle_busy {s : State} {z : Zone} (h1 : (s.zone z).state ≠ .occupied) (h2 : (s.zone z).state ≠ .free) :
    s.settle.zone z = s.zone z := by
  rw [zone_settle, (movesOnly_startMoves s).busy h1 h2]

@[simp] theorem zone_notify (e : Event) (s : State) (z : Zone) : (s.notify e).zone z = s.zone z :=
  zone_congr (by simp) z

@[simp] theorem profileAsked_notify (e : Event) (s : State) (product : Nat) :
    (s.notify e).profileAsked product = s.profileAsked product := by
  simp [profileAsked]

@[simp] theorem zone_pump (s : State) (z : Zone) : s.pump.zone z = s.zone z := zone_congr (by simp) z

/-! ### At IN (R10, R12, R16) -/

/-- The state in which a record stands for the pallet at IN, before its tag is handed to the check: the tag timer is
stopped, the record is written, IN is OCCUPIED by it. -/
structure StandsAtIn (n : TrackNo) (p : Pallet) (s u : State) : Prop where
  pallet : ∀ m, u.pallet m = if m = n then some p else s.pallet m
  tagTimer : u.trt.tagTimer = .stopped
  checkSeq : u.trt.checkSeq = s.trt.checkSeq
  record : (u.zone .infeed).record = some n
  waiters : u.cku.waiters = s.cku.waiters
  frame : s.onlyChanged u [.track, .check, .zones]

/-- The event's end after a record has come to stand at IN: the records and IN's own are as they were then. -/
theorem StandsAtIn.taken {n : TrackNo} {p : Pallet} {s u : State} (h : StandsAtIn n p s u) :
    (u.wantProfile n).settle.pump.trt = u.trt ∧ ((u.wantProfile n).settle.pump.zone .infeed).record = some n ∧
    s.onlyChanged (u.wantProfile n).settle.pump [.track, .check, .zones, .wrappers, .store, .link] := by
  have hz : (u.wantProfile n).zone .infeed = u.zone .infeed := zone_congr (by simp) _
  refine ⟨by simp, ?_, fun b hb => ?_⟩
  · rw [zone_pump, settle_infeed_record, hz, h.record]
  · have hs := h.frame b
    cases b <;> simp [Block.same] at hb hs ⊢ <;> exact hs

/-- The lowest track number that no record holds. -/
theorem lowestFree_of {n : TrackNo} {s : State} (h : s.pallet n = none) (hl : ∀ m, m < n → s.pallet m ≠ none) :
    s.lowestFree = some n := by
  have all : TrackNo.all = List.finRange 24 := by decide
  rw [lowestFree, all, List.find?_eq_some_iff_getElem]
  refine ⟨by simp [h], n.val, by simp, by simp, fun j hj => ?_⟩
  have := hl ⟨j, by omega⟩ hj
  simpa using Option.isSome_iff_ne_none.mpr this

theorem lowestFree_full {s : State} (h : ∀ n, s.pallet n ≠ none) : s.lowestFree = none := by
  simp only [lowestFree, List.find?_eq_none]
  intro n _
  simpa using h n

/-- The state in which the OFF_LINE record `n` stands re-used at IN (R16). -/
def reusedAtIn (n : TrackNo) (p : Pallet) (s : State) : State :=
  ((((s.modTrt fun t => { t with tagTimer := .stopped }).putPallet n (some p)).modTrt fun r =>
    { r with offLine := r.offLine.filter (· != n) }).modCku fun c => { c with
      holdEnded := c.holdEnded.filter (· != n) }).occupy .infeed n

/-- The state in which a new record stands at IN (R10). -/
def createdAtIn (n : TrackNo) (p : Pallet) (s : State) : State :=
  ((s.modTrt fun t => { t with tagTimer := .stopped }).putPallet n (some p)).occupy .infeed n

/-- A record located at IN comes to stand there: IN is OCCUPIED by it. -/
theorem occupy_infeed {n : TrackNo} {p : Pallet} {s : State} (h : s.pallet n = some p)
    (hp : p.location = some .infeed) : s.occupy .infeed n = s.putZone .infeed { ZoneRecord.free with
      eye := (s.zone .infeed).eye, state := .occupied, record := some n } := by
  have located : some { p with location := some .infeed } = some p := by rw [← hp]
  have hm : (s.putZone .infeed { ZoneRecord.free with
      eye := (s.zone .infeed).eye, state := .occupied, record := some n }).pallet n = some p := h
  rw [← putPallet_self hm, ← located]
  exact modPallet_of hm _

theorem reusedAtIn_eq {n : TrackNo} {p : Pallet} (hp : p.location = some .infeed) (s : State) :
    s.reusedAtIn n p = ((((s.modTrt fun t => { t with tagTimer := .stopped }).putPallet n (some p)).modTrt fun r =>
      { r with offLine := r.offLine.filter (· != n) }).modCku fun c => { c with
        holdEnded := c.holdEnded.filter (· != n) }).putZone .infeed { ZoneRecord.free with
          eye := (s.zone .infeed).eye, state := .occupied, record := some n } :=
  occupy_infeed ((pallet_putPallet n n _ _).trans (if_pos rfl)) hp

theorem createdAtIn_eq {n : TrackNo} {p : Pallet} (hp : p.location = some .infeed) (s : State) :
    s.createdAtIn n p = ((s.modTrt fun t => { t with tagTimer := .stopped }).putPallet n (some p)).putZone .infeed
      { ZoneRecord.free with eye := (s.zone .infeed).eye, state := .occupied, record := some n } :=
  occupy_infeed ((pallet_putPallet n n _ _).trans (if_pos rfl)) hp

theorem reusedAtIn_stands {n : TrackNo} {p : Pallet} (hp : p.location = some .infeed) (s : State) :
    StandsAtIn n p s (s.reusedAtIn n p) := by
  rw [reusedAtIn_eq hp]
  exact {
    pallet := fun m => pallet_putPallet n m (some p) (s.modTrt fun t => { t with tagTimer := .stopped })
    tagTimer := rfl
    checkSeq := rfl
    record := by simp
    waiters := rfl
    frame := fun b hb => by cases b <;> simp [Block.same] at hb ⊢ }

theorem createdAtIn_stands {n : TrackNo} {p : Pallet} (hp : p.location = some .infeed) (s : State) :
    StandsAtIn n p s (s.createdAtIn n p) := by
  rw [createdAtIn_eq hp]
  exact {
    pallet := fun m => pallet_putPallet n m (some p) (s.modTrt fun t => { t with tagTimer := .stopped })
    tagTimer := rfl
    checkSeq := rfl
    record := by simp
    waiters := rfl
    frame := fun b hb => by cases b <;> simp [Block.same] at hb ⊢ }

/-- The pallet at IN left untracked by a full track, with its notice (R12). -/
def leftAtIn (s : State) : State :=
  ((s.modTrt fun r => { r with tagTimer := .stopped }).putZone .infeed
    { ZoneRecord.free with eye := (s.zone .infeed).eye, state := .untracked }).notify
      (.zone .untracked .infeed none none (some .trackFull))

/-- A record of the same product and batch is re-used (R16). -/
theorem identify_reuse {g : Tag} {n : TrackNo} {p : Pallet} {s : State} (hm : s.matchOffLine g = some n)
    (hp : s.pallet n = some p) :
    s.identify (some g) = (s.reusedAtIn n (p.reused g)).wantProfile n := by
  have hm' : (s.modTrt fun t => { t with tagTimer := .stopped }).matchOffLine g = some n := hm
  have hp' : (s.modTrt fun t => { t with tagTimer := .stopped }).pallet n = some p := hp
  simp only [identify, hm', reuse, stand, reusedAtIn, modPallet_of hp']

theorem identify_no_match {tag : Option Tag} {s : State} (hm : ∀ g, tag = some g → s.matchOffLine g = none) :
    s.identify tag = (s.modTrt fun t => { t with tagTimer := .stopped }).create tag := by
  cases tag with
  | none => rfl
  | some g =>
    have hm' : (s.modTrt fun t => { t with tagTimer := .stopped }).matchOffLine g = none := hm g rfl
    simp only [identify, hm']

/-- Without a match a record is created at the lowest free number (R1, R10). -/
theorem identify_create {tag : Option Tag} {n : TrackNo} {s : State}
    (hm : ∀ g, tag = some g → s.matchOffLine g = none) (hl : s.lowestFree = some n) :
    s.identify tag = (s.createdAtIn n (Pallet.fresh tag s.now)).wantProfile n := by
  have hl' : (s.modTrt fun t => { t with tagTimer := .stopped }).lowestFree = some n := hl
  rw [identify_no_match hm, create, hl']
  rfl

/-- With a full track the pallet is left untracked (R12). -/
theorem identify_full {tag : Option Tag} {s : State} (hm : ∀ g, tag = some g → s.matchOffLine g = none)
    (hl : s.lowestFree = none) : s.identify tag = s.leftAtIn := by
  have hl' : (s.modTrt fun t => { t with tagTimer := .stopped }).lowestFree = none := hl
  rw [identify_no_match hm, create, hl']
  rfl

/-- No OFF_LINE record has the product and the batch of a tag. -/
theorem matchOffLine_none {g : Tag} {s : State} (h : ∀ m ∈ s.trt.offLine, ∀ q, (s.pallet m).bind (·.tag) = some q →
    q.product = g.product → q.batch ≠ g.batch) : s.matchOffLine g = none := by
  rw [matchOffLine, List.find?_eq_none]
  intro m hm
  cases hq : (s.pallet m).bind (·.tag) with
  | none => simp
  | some q => simpa using h m hm q hq

/-- A match is a record. -/
theorem matchOffLine_pallet {g : Tag} {n : TrackNo} {s : State} (h : s.matchOffLine g = some n) :
    ∃ p, s.pallet n = some p := by
  have hf := List.find?_some h
  cases hp : s.pallet n with
  | none => simp [hp] at hf
  | some p => exact ⟨p, rfl⟩

end State
open State

/-- A tag read or the tag timer's expiry at IN awaiting the tag identifies the pallet there (R10). -/
theorem exec_identifies {s : State} {read : Option TagFields} {c : Instr} {tag : Option Tag} (h : s.inReset = false)
    (ht : s.taking = true) (ha : (s.zone .infeed).state = .awaitingTag)
    (hc : (c = .tagRead read ∧ tag = read.bind TagFields.tag) ∨
      (c = .tagTimerExpiry ∧ tag = none ∧ s.trt.tagTimer.isRunning = true)) :
    exec c s = .next (s.identify tag).settle.pump := by
  rcases hc with ⟨rfl, rfl⟩ | ⟨rfl, rfl, hr⟩
  · have taken : s.takeTag read = s.identify (read.bind TagFields.tag) := if_pos ha
    rw [← taken]
    exact congrArg Host.Outcome.next (arrival_of (fun s => (s.takeTag read).settle) h ht)
  · have taken : s.tagTimeout = s.identify none := by simp [tagTimeout, hr, ha]
    rw [← taken]
    exact congrArg Host.Outcome.next (event_of (fun s => s.tagTimeout.settle) h)

/-- What a tag read or an expiry at IN leaves of the tag timer, the check sequence and the blocks it does not touch, and
that the record that stands there was handed to the check. -/
def State.Identifies (tag : Option Tag) (s t : State) : Prop :=
  t.trt.tagTimer = .stopped ∧ t.trt.checkSeq = s.trt.checkSeq ∧
  s.onlyChanged t [.track, .check, .zones, .wrappers, .store, .link] ∧
  ∀ m, (t.zone .infeed).record = some m → ∃ u : State, t = (u.wantProfile m).settle.pump ∧
    (u.pallet m).map (·.tag) = some tag ∧ s.onlyChanged u [.track, .check, .zones] ∧
    u.cku.waiters = s.cku.waiters

/-- A record that has come to stand at IN identifies the pallet there. -/
theorem State.StandsAtIn.identifies {n : TrackNo} {p : Pallet} {tag : Option Tag} {s u t : State}
    (hu : StandsAtIn n p s u) (hp : p.tag = tag) (ht : t = (u.wantProfile n).settle.pump) : s.Identifies tag t := by
  obtain ⟨htrt, hrec, hframe⟩ := hu.taken
  rw [← ht] at htrt hrec hframe
  refine ⟨by rw [htrt, hu.tagTimer], by rw [htrt, hu.checkSeq], hframe, fun m hm => ?_⟩
  obtain rfl : n = m := Option.some.inj (hrec.symm.trans hm)
  exact ⟨u, ht, by simp [hu.pallet, hp], hu.frame, hu.waiters⟩

/-- A full track leaves the pallet at IN untracked, without a record (R12). -/
theorem State.leftAtIn_zone (s : State) : s.leftAtIn.settle.pump.zone .infeed =
    { ZoneRecord.free with eye := (s.zone .infeed).eye, state := .untracked } := by
  have hz : s.leftAtIn.zone .infeed =
      { ZoneRecord.free with eye := (s.zone .infeed).eye, state := .untracked } := by
    rw [leftAtIn, zone_notify, zone_putZone, if_pos rfl]
  rw [zone_pump, settle_busy (by simp [hz]) (by simp [hz]), hz]

theorem State.leftAtIn_trt (s : State) : s.leftAtIn.settle.pump.trt = { s.trt with tagTimer := .stopped } := by
  simp [leftAtIn, putZone]

theorem State.leftAtIn_frame (s : State) :
    s.onlyChanged s.leftAtIn.settle.pump [.track, .check, .zones, .wrappers, .store, .link] := by
  intro b hb
  cases b <;> simp [Block.same, leftAtIn, putZone] at hb ⊢

/-- A full track identifies no record, and none stands at IN. -/
theorem State.leftAtIn_identifies (tag : Option Tag) (s : State) : s.Identifies tag s.leftAtIn.settle.pump := by
  refine ⟨by rw [leftAtIn_trt], by rw [leftAtIn_trt], s.leftAtIn_frame, fun m hm => ?_⟩
  rw [leftAtIn_zone] at hm
  cases hm

/-- Settles O42: what `identify` leaves, for a reused record, a fresh one and a full table; then `wantProfile` by what is read. -/
theorem tagsIdentifyPallets : Obligations.TagsIdentifyPallets := by
  refine ⟨fun s read h ht ha c tag hc => ⟨_, exec_identifies h ht ha hc, ?_⟩, fun s read h ht => ⟨fun ha => ?_, fun hr => ?_⟩,
    fun s n p hp => ⟨fun hg => wantProfile_no_tag hp hg, fun g hg => ?_⟩⟩
  · by_cases hm : ∃ g n, tag = some g ∧ s.matchOffLine g = some n
    · obtain ⟨g, n, rfl, hm⟩ := hm
      obtain ⟨p, hp⟩ := matchOffLine_pallet hm
      rw [identify_reuse hm hp]
      have stands := reusedAtIn_stands (n := n) (p := p.reused g) rfl s
      obtain ⟨htimer, hseq, hframe, hwant⟩ := stands.identifies (tag := some g) rfl rfl
      obtain ⟨htrt, hrec, -⟩ := stands.taken
      refine ⟨htimer, hseq, hframe, hwant, fun g' n' p' hg' hm' hp' => ?_, fun hno => ?_⟩
      · obtain rfl : g = g' := Option.some.inj hg'
        obtain rfl : n = n' := Option.some.inj (hm.symm.trans hm')
        obtain rfl : p = p' := Option.some.inj (hp.symm.trans hp')
        refine ⟨by rw [htrt, reusedAtIn_eq rfl]; rfl, hrec, fun m hne => ?_, ?_⟩
        · rw [pallet_congr htrt, stands.pallet, if_neg hne]
        · rw [pallet_congr htrt, stands.pallet, if_pos rfl]; rfl
      · rw [matchOffLine_none (hno g rfl)] at hm
        cases hm
    · have hno : ∀ g, tag = some g → s.matchOffLine g = none := fun g hg =>
        Option.eq_none_iff_forall_ne_some.mpr fun n hn => hm ⟨g, n, hg, hn⟩
      have unmatched {g : Tag} {n : TrackNo} (hg : tag = some g) (hm' : s.matchOffLine g = some n) : False := by
        rw [hno g hg] at hm'
        cases hm'
      cases hl : s.lowestFree with
      | none =>
        rw [identify_full hno hl]
        obtain ⟨htimer, hseq, hframe, hwant⟩ := s.leftAtIn_identifies tag
        refine ⟨htimer, hseq, hframe, hwant, fun g n p hg hm' _ => (unmatched hg hm').elim, fun _ => ⟨?_, fun m hf hlow => ?_,
          fun hfull => ⟨?_, ?_, rfl⟩⟩⟩
        · rw [leftAtIn_trt]
        · rw [lowestFree_of hf hlow] at hl
          cases hl
        · rw [leftAtIn_trt]
        · rw [leftAtIn_zone]
      | some n =>
        rw [identify_create hno hl]
        have stands := createdAtIn_stands (n := n) (p := Pallet.fresh tag s.now) rfl s
        obtain ⟨htimer, hseq, hframe, hwant⟩ := stands.identifies (tag := tag) rfl rfl
        obtain ⟨htrt, hrec, -⟩ := stands.taken
        refine ⟨htimer, hseq, hframe, hwant, fun g' n' p' hg' hm' _ => (unmatched hg' hm').elim, fun _ => ⟨?_,
          fun m hf hlow => ?_, fun hfull => ?_⟩⟩
        · rw [htrt, createdAtIn_eq rfl]; rfl
        · obtain rfl : n = m := Option.some.inj (hl.symm.trans (lowestFree_of hf hlow))
          refine ⟨hrec, fun m hne => ?_, ?_⟩
          · rw [pallet_congr htrt, stands.pallet, if_neg hne]
          · rw [pallet_congr htrt, stands.pallet, if_pos rfl]; rfl
        · rw [lowestFree_full hfull] at hl
          cases hl
  · have discarded : s.takeTag read = s := if_neg ha
    have taken := arrival_of (fun s => (s.takeTag read).settle) h ht
    rw [discarded] at taken
    exact congrArg Host.Outcome.next taken
  · have discarded : s.tagTimeout = s := by simp [tagTimeout, hr, Timer.isRunning]
    have taken := event_of (fun s => s.tagTimeout.settle) h
    rw [discarded] at taken
    exact congrArg Host.Outcome.next taken
  · refine ⟨fun hs => ?_, fun i hs => ⟨fun f he => ?_, fun he => ?_, fun f he => ?_⟩⟩
    · exact wantProfile_missing hp hg (readProfileOf_no_slot hs) (.inl ⟨_, rfl⟩)
    · exact wantProfile_valid hp hg (readProfileOf_valid hs he)
    · exact wantProfile_missing hp hg (readProfileOf_not_valid hs he) he
    · rw [wantProfile_missing hp hg (readProfileOf_failing hs he) (.inr rfl), joinWaiters, profileAsked_notify]
      rfl

end Sys2Proof.Machine

namespace Sys2Proof.Machine

/-! ### The verdict (R60 to R64) -/

theorem mem_addReason {r q : Reason} {rs : List Reason} : q ∈ addReason r rs ↔ q = r ∨ q ∈ rs := by
  induction rs with
  | nil => simp [addReason]
  | cons a rest ih =>
    rw [addReason]
    split
    · simp
    · split
      · rename_i h; subst h; simp
      · rw [List.mem_cons, ih, List.mem_cons, or_left_comm]

theorem addReason_ne_nil (r : Reason) (rs : List Reason) : addReason r rs ≠ [] :=
  List.ne_nil_of_mem (mem_addReason.mpr (.inl rfl))

/-- A list of reasons added to a set of reasons, one after the other. -/
def addAll (added rs : List Reason) : List Reason := added.foldl (fun rs r => addReason r rs) rs

theorem mem_addAll {q : Reason} {added rs : List Reason} : q ∈ addAll added rs ↔ q ∈ added ∨ q ∈ rs := by
  induction added generalizing rs with
  | nil => simp [addAll]
  | cons r rest ih =>
    have hc : addAll (r :: rest) rs = addAll rest (addReason r rs) := rfl
    rw [hc, ih, mem_addReason, List.mem_cons, or_left_comm, or_assoc]

namespace State

theorem putPallet_trt_congr {s t : State} (h : t.trt = s.trt) (n : TrackNo) (p : Option Pallet) :
    (t.putPallet n p).trt = (s.putPallet n p).trt := by
  simp only [putPallet, modTrt_trt, h]

/-- From `s` to `t` the track changed in the record of one number alone, which is now `q`. -/
def WritesRecord (n : TrackNo) (q : Pallet) (s t : State) : Prop := t.trt = (s.putPallet n (some q)).trt

namespace WritesRecord
variable {n : TrackNo} {p q : Pallet} {s t u : State}

theorem put (n : TrackNo) (q : Pallet) (s : State) : WritesRecord n q s (s.putPallet n (some q)) := rfl

theorem put_of_frame (h : u.trt = s.trt) : WritesRecord n q s (u.putPallet n (some q)) := putPallet_trt_congr h n _

theorem refl (h : s.pallet n = some p) : WritesRecord n p s s := congrArg State.trt (putPallet_self h).symm

theorem pallet (h : WritesRecord n q s t) (m : TrackNo) : t.pallet m = if m = n then some q else s.pallet m :=
  (pallet_congr h m).trans (pallet_putPallet n m _ s)

theorem same (h : WritesRecord n q s t) : t.pallet n = some q := (h.pallet n).trans (if_pos rfl)

theorem other (h : WritesRecord n q s t) {m : TrackNo} (hm : m ≠ n) : t.pallet m = s.pallet m :=
  (h.pallet m).trans (if_neg hm)

theorem checkSeq (h : WritesRecord n q s t) : t.trt.checkSeq = s.trt.checkSeq :=
  calc t.trt.checkSeq = (s.putPallet n (some q)).trt.checkSeq := congrArg Track.checkSeq h
    _ = s.trt.checkSeq := rfl

theorem trans (h : WritesRecord n p s t) (h' : WritesRecord n q t u) : WritesRecord n q s u :=
  calc u.trt = (t.putPallet n (some q)).trt := h'
    _ = ((s.putPallet n (some p)).putPallet n (some q)).trt := putPallet_trt_congr h n _
    _ = (s.putPallet n (some q)).trt := by rw [putPallet_putPallet]

/-- Changes of the other blocks write no record. -/
theorem frame (h : WritesRecord n q s t) (hu : u.trt = t.trt) : WritesRecord n q s u := hu.trans h

end WritesRecord

theorem addReasonTo_writes {n : TrackNo} {p : Pallet} {s : State} (h : s.pallet n = some p) (r : Reason) :
    WritesRecord n { p with reasons := addReason r p.reasons } s (s.addReasonTo n r) :=
  congrArg State.trt (addReasonTo_of h r)

theorem addReasons_writes {n : TrackNo} {p : Pallet} {s : State} (h : s.pallet n = some p) (rs : List Reason) :
    WritesRecord n { p with reasons := addAll rs p.reasons } s (s.addReasons n rs) := by
  induction rs generalizing s p with
  | nil => exact .refl h
  | cons r rest ih =>
    have one := addReasonTo_writes h r
    exact one.trans (ih one.same)

/-! ### The copy of the plan (R64) -/

section
variable {n : TrackNo} {p : Pallet} {s u : State} {i : Fin 16} {r : Recipe} {e : Entry Recipe} {recipe : Option Nat}

theorem copyPlan_zero (h : s.pallet n = some p) (hr : recipeEntry (recipe.getD 0) = none) :
    s.copyPlan n recipe = s.putPallet n (some { p with plan := none }) := by
  simp only [copyPlan, hr, modPallet_of h]

theorem copyPlan_valid (h : s.pallet n = some p) (hr : recipeEntry (recipe.getD 0) = some i)
    (he : s.sdu.recipes[i] = .valid r true) :
    s.copyPlan n recipe = s.putPallet n (some { p with plan := some r }) := by
  simp only [copyPlan, hr, readRecipeEntry, he, readEntry_valid, modPallet_of h]

theorem copyPlan_not_valid (h : s.pallet n = some p) (hr : recipeEntry (recipe.getD 0) = some i)
    (he : (∃ holds, s.sdu.recipes[i] = .empty holds) ∨ s.sdu.recipes[i] = .damaged) :
    s.copyPlan n recipe = s.putPallet n (some { p with plan := none, recipeMissing := true }) := by
  rcases he with ⟨holds, he⟩ | he <;> simp [copyPlan, hr, readRecipeEntry, readEntry, he, modPallet_of h]

theorem copyPlan_failing (h : s.pallet n = some p) (hr : recipeEntry (recipe.getD 0) = some i)
    (he : s.sdu.recipes[i] = .valid r false) : s.copyPlan n recipe =
      ((s.modSdu fun d => { d with recipes := d.recipes.set i .damaged }).notify
        (.store .damaged (.recipe i) none none 0 0)).putPallet n (some { p with plan := none, recipeMissing := true }) := by
  have hd : (s.damageAtRead (.recipe i)).pallet n = some p := (pallet_congr (by simp) n).trans h
  simp only [copyPlan, hr, readRecipeEntry, he, readEntry_failing, modPallet_of hd]
  rfl

/-- The copy of the plan writes the plan of the record, and leaves the label unit. -/
theorem copyPlan_writes (h : s.pallet n = some p) (recipe : Option Nat) : (s.copyPlan n recipe).lbu = s.lbu ∧
    ∃ plan missing, WritesRecord n { p with plan := plan, recipeMissing := missing } s (s.copyPlan n recipe) := by
  cases hr : recipeEntry (recipe.getD 0) with
  | none => rw [copyPlan_zero h hr]; exact ⟨rfl, _, _, .put ..⟩
  | some i =>
    cases he : s.sdu.recipes[i] with
    | valid r holds =>
      cases holds
      · rw [copyPlan_failing h hr he]
        exact ⟨by simp [putPallet], _, _, .put_of_frame (by simp)⟩
      · rw [copyPlan_valid h hr he]; exact ⟨rfl, _, _, .put ..⟩
    | empty holds => rw [copyPlan_not_valid h hr (.inl ⟨holds, he⟩)]; exact ⟨rfl, _, _, .put ..⟩
    | damaged => rw [copyPlan_not_valid h hr (.inr he)]; exact ⟨rfl, _, _, .put ..⟩

end

/-! ### Allocation (R31, R63) -/

theorem allocate_writes {n : TrackNo} {p : Pallet} {s t : State} (h : s.pallet n = some p)
    (ha : s.allocate n = some t) : ∃ a, WritesRecord n { p with assignment := some a } s t := by
  simp only [allocate, h] at ha
  split at ha
  · cases ha
  · rename_i o l _
    obtain rfl := Option.some.inj ha
    exact ⟨⟨o.number, l.number⟩, rfl⟩

/-- A record whose verdict has been taken keeps what the check wrote into it. -/
structure SameCheck (p q : Pallet) : Prop where
  state : q.state = p.state
  attempts : q.attempts = p.attempts
  gross : q.gross = p.gross
  checkSeq : q.checkSeq = p.checkSeq
  verdictTime : q.verdictTime = p.verdictTime

/-- A record without reasons: allocation with the copy of the plan, or NO_DEMAND (R63). -/
theorem acceptOrNoDemand_writes {n : TrackNo} {p : Pallet} {s : State} (h : s.pallet n = some p) (recipe : Option Nat) :
    (s.acceptOrNoDemand n recipe).lbu = s.lbu ∧ ∃ q, WritesRecord n q s (s.acceptOrNoDemand n recipe) ∧
      SameCheck p q ∧ (q.reasons = p.reasons ∨ q.reasons = addReason .noDemand p.reasons) := by
  unfold acceptOrNoDemand
  cases ha : s.allocate n with
  | none => exact ⟨by simp, _, addReasonTo_writes h .noDemand, ⟨rfl, rfl, rfl, rfl, rfl⟩, .inr rfl⟩
  | some t =>
    obtain ⟨a, allocated⟩ := allocate_writes h ha
    obtain ⟨hlbu, plan, missing, copied⟩ := copyPlan_writes allocated.same recipe
    have hof := allocate_of ha
    exact ⟨hlbu.trans (by simp [hof]), _, allocated.trans copied, ⟨rfl, rfl, rfl, rfl, rfl⟩, .inl rfl⟩

/-! ### The verdict as a whole -/

/-- A record with its place in the check sequence and the time of its verdict (R2, R60). -/
def counted (n : TrackNo) (p : Pallet) (s : State) : State :=
  (s.modTrt fun t => { t with checkSeq := t.checkSeq + 1 }).putPallet n (some { p with
    checkSeq := some (s.trt.checkSeq + 1), verdictTime := some s.now })

/-- The end of the verdict once its reasons are known: they are added, a record without reasons goes to allocation, the
check is DONE and the record waits for no profile (R61, R63, R72). -/
def concluded (n : TrackNo) (rs : List Reason) (u : State) : State :=
  let v := rs.foldl (fun v r => v.addReasonTo n r) u
  let w := match v.pallet n with
    | some q => if q.reasons = [] then (match v.allocate n with
        | some x => x.copyPlan n v.cku.recipe
        | none => v.addReasonTo n .noDemand) else v
    | none => v
  (w.modCku fun c => { c with state := .done }).stopWaiting n

/-- The same end in the words of the verdict itself. -/
theorem concluded_eq (n : TrackNo) (rs : List Reason) (u : State) : u.concluded n rs =
    ((match (u.addReasons n rs).pallet n with
      | some p => if p.reasons.isEmpty then (u.addReasons n rs).acceptOrNoDemand n (u.addReasons n rs).cku.recipe
        else u.addReasons n rs
      | none => u.addReasons n rs).modCku fun c => { c with state := .done }).stopWaiting n := by
  have hv : rs.foldl (fun v r => v.addReasonTo n r) u = u.addReasons n rs := rfl
  rw [concluded, hv]
  cases (u.addReasons n rs).pallet n with
  | none => rfl
  | some p => simp only [List.isEmpty_iff]; rfl

section
variable {n : TrackNo} {p : Pallet} {g : Tag} {s : State}

/-- The record as it is counted. -/
def countedPallet (p : Pallet) (s : State) : Pallet :=
  { p with checkSeq := some (s.trt.checkSeq + 1), verdictTime := some s.now }

theorem counted_pallet (n : TrackNo) (p : Pallet) (s : State) :
    (s.counted n p).pallet n = some (s.countedPallet p) := by
  simp [counted, countedPallet]

/-- The verdict on the check track: the record counted, its reasons found, the verdict concluded. -/
theorem verdict_of (ht : s.cku.track = some n) (h : s.pallet n = some p) :
    s.verdict = match p.tag with
      | none => (s.counted n p).concluded n [.noTag]
      | some g => ((s.counted n p).verdictProfile g).2.concluded n (((s.counted n p).verdictProfile g).2.verdictReasons
          (s.countedPallet p) g ((s.counted n p).verdictProfile g).1) := by
  have hc : ((s.modTrt fun t => { t with checkSeq := s.trt.checkSeq + 1 }).modPallet n fun p =>
      { p with checkSeq := some (s.trt.checkSeq + 1), verdictTime := some s.now }) = s.counted n p :=
    have h' : (s.modTrt fun t => { t with checkSeq := s.trt.checkSeq + 1 }).pallet n = some p := h
    modPallet_of h' _
  have hp : (s.countedPallet p).tag = p.tag := rfl
  simp only [verdict, ht, hc, counted_pallet, hp]
  cases p.tag with
  | none => exact (concluded_eq n [.noTag] _).symm
  | some g => exact (concluded_eq n _ _).symm

/-! ### The profile used, and the reasons -/

/-- The weight's part of the verdict's reasons (R61). -/
def weighed (p : Pallet) (f : Profile) (units : Nat) : List Reason :=
  match p.gross with
  | some w => (if w + f.tolerance < f.tare + units * f.unitWeight then [.weightLow] else []) ++
      (if f.tare + units * f.unitWeight + f.tolerance < w then [.weightHigh] else [])
  | none => []

theorem weighed_eq (p : Pallet) (f : Profile) (units : Nat) : weighed p f units =
    match p.gross with | some w => weightReasons f units w | none => [] := by
  unfold weighed
  cases p.gross <;> rfl

/-- The part of a whole frame's counts (R58, R61). -/
def measured (p : Pallet) (f : Profile) : List Reason :=
  match p.profile with
  | some r => if .scanFault ∈ p.reasons ∨ .scanShort ∈ p.reasons then []
      else (if f.overLimit < r.overs then [.overhang] else []) ++
        (if f.underLimit < r.unders then [.underfill] else []) ++
        (if f.highestAllowed < r.highest then [.overHeight] else [])
  | none => []

theorem verdictProfile_frame_ended (hf : s.cku.frame = .ended) : s.verdictProfile g = (s.cku.snapshot, s) := by
  simp [verdictProfile, hf]

theorem verdictProfile_valid {f : Profile} {holds : Bool} {u : State} (hf : s.cku.frame = .timedOut)
    (hr : s.readProfileOf g.product = (.valid f holds, u)) :
    s.verdictProfile g = (some f, u.modCku fun c => { c with recipe := some f.recipe }) := by
  simp [verdictProfile, hf, hr]

theorem verdictProfile_missing {e : Entry Profile} {u : State} (hf : s.cku.frame = .timedOut)
    (hr : s.readProfileOf g.product = (e, u)) (he : (∃ holds, e = .empty holds) ∨ e = .damaged) :
    s.verdictProfile g = (none, u) := by
  rcases he with ⟨holds, rfl⟩ | rfl <;> simp [verdictProfile, hf, hr]

/-- The reasons against the snapshot of a frame that ended. -/
theorem verdictReasons_ended {f : Profile} (hf : s.cku.frame = .ended) (hs : s.cku.snapshot = some f) :
    s.verdictReasons p g (some f) = weighed p f g.units ++ measured p f := by
  have whole : s.wholeFrame p = true ↔ ¬ (.scanFault ∈ p.reasons ∨ .scanShort ∈ p.reasons) := by
    simp [wholeFrame, hf, hs]
  have counts : (match p.profile with
      | some r => if s.wholeFrame p then heightReasons f r else []
      | none => []) = measured p f := by
    unfold measured
    cases p.profile with
    | none => rfl
    | some r =>
      by_cases hw : .scanFault ∈ p.reasons ∨ .scanShort ∈ p.reasons
      · simp only [(not_congr whole).mpr (not_not_intro hw), if_pos hw]; rfl
      · simp only [whole.mpr hw, if_neg hw]; rfl
  rw [weighed_eq]
  exact congrArg (List.append _) counts

/-- The reasons without a frame: the weight's alone, against the profile as it stands. -/
theorem verdictReasons_no_scan {f : Profile} (hf : s.cku.frame = .timedOut) :
    s.verdictReasons p g (some f) = weighed p f g.units := by
  have whole : s.wholeFrame p = false := by simp [wholeFrame, hf]
  have counts : (match p.profile with
      | some r => if s.wholeFrame p then heightReasons f r else []
      | none => []) = [] := by
    rw [whole]
    cases p.profile <;> rfl
  rw [weighed_eq]
  exact (congrArg (List.append _) counts).trans (List.append_nil _)

theorem verdictReasons_none : s.verdictReasons p g none = if s.cku.frame = .timedOut then [.noProfile] else [] := rfl

end

end State

end Sys2Proof.Machine

namespace Sys2Proof.Machine

namespace State

/-- The end of waiting for profiles leaves the check's state. -/
@[simp] theorem stopWaiting_state (n : TrackNo) (s : State) : (s.stopWaiting n).cku.state = s.cku.state := by
  have all : ∀ (l : List Waiters) (u : State),
      (l.foldl (fun s w => s.withdrawProfile w.product) u).cku.state = u.cku.state := by
    intro l
    induction l with
    | nil => exact fun _ => rfl
    | cons w l ih => exact fun u => ih (u.withdrawProfile w.product)
  exact all _ _

/-- What the end of a verdict leaves: the check DONE, the record with its reasons, or with NO_DEMAND alone where it had
none and no order took it. -/
theorem concluded_writes {n : TrackNo} {p : Pallet} {u : State} (h : u.pallet n = some p) (rs : List Reason) :
    (u.concluded n rs).cku.state = .done ∧ (u.concluded n rs).lbu = u.lbu ∧
    ∃ q, WritesRecord n q u (u.concluded n rs) ∧ SameCheck p q ∧
      (q.reasons = addAll rs p.reasons ∨ (addAll rs p.reasons = [] ∧ q.reasons = [.noDemand])) := by
  have added := addReasons_writes h rs
  rw [concluded_eq, added.same]
  by_cases he : addAll rs p.reasons = []
  · obtain ⟨hlbu, q, accepted, same, hq⟩ := acceptOrNoDemand_writes added.same (u.addReasons n rs).cku.recipe
    simp only [he, List.isEmpty_nil, if_true]
    refine ⟨by simp, ?_, q, (added.trans accepted).frame (by simp), ⟨same.state, same.attempts, same.gross,
      same.checkSeq, same.verdictTime⟩, hq.imp (fun hq => hq.trans he) fun hq => ⟨trivial, ?_⟩⟩
    · simpa using hlbu
    · rw [hq, he]; rfl
  · have hne : (addAll rs p.reasons).isEmpty = false := by simpa using he
    simp only [hne]
    exact ⟨by simp, by simp, _, added.frame (by simp), ⟨rfl, rfl, rfl, rfl, rfl⟩, .inl rfl⟩

/-- Without reasons of its own a verdict holds its other reasons and those the record had. -/
theorem mem_concluded {r : Reason} {rs old new : List Reason} (hr : r ≠ .noDemand)
    (h : new = addAll rs old ∨ (addAll rs old = [] ∧ new = [.noDemand])) : r ∈ new ↔ r ∈ rs ∨ r ∈ old := by
  rw [← mem_addAll]
  rcases h with rfl | ⟨he, rfl⟩
  · rfl
  · rw [he]; simp [hr]

/-- Reading a profile leaves the check unit. -/
theorem readProfileOf_cku {product : Nat} {e : Entry Profile} {s u : State} (h : s.readProfileOf product = (e, u)) :
    u.cku = s.cku := by
  have hu : u = (s.readProfileOf product).2 := by rw [h]
  subst hu; simp

/-! ### When the verdict is taken (R60) -/

section
variable {n : TrackNo} {p : Pallet} {g : Tag} {f : Profile} {s : State}

theorem tryVerdict_in (hc : s.cku.state = .capturing) (hw : s.cku.weight = .taken ∨ s.cku.weight = .timedOut)
    (hf : s.cku.frame = .ended ∨ s.cku.frame = .timedOut) : s.tryVerdict = s.verdict := by
  have hw' : WeightCapture.isIn s.cku.weight = true := by rcases hw with h | h <;> rw [h] <;> rfl
  have hf' : FrameCapture.isIn s.cku.frame = true := by rcases hf with h | h <;> rw [h] <;> rfl
  exact if_pos ⟨hc, hw', hf'⟩

theorem tryVerdict_waits (h : s.cku.weight = .armed ∨ s.cku.weight = .off ∨ s.cku.frame = .armed ∨
    s.cku.frame = .isOpen ∨ s.cku.frame = .off) : s.tryVerdict = s := by
  refine if_neg ?_
  rintro ⟨-, hw, hf⟩
  rcases h with h | h | h | h | h
  · rw [h] at hw; cases hw
  · rw [h] at hw; cases hw
  · rw [h] at hf; cases hf
  · rw [h] at hf; cases hf
  · rw [h] at hf; cases hf

theorem verdict_untagged (ht : s.cku.track = some n) (h : s.pallet n = some p) (hg : p.tag = none) :
    s.verdict = (s.counted n p).concluded n [.noTag] := by
  rw [verdict_of ht h, hg]

/-- The verdict on a tagged record, by the profile it uses. -/
theorem verdict_tagged {used : Option Profile} {u : State} (ht : s.cku.track = some n) (h : s.pallet n = some p)
    (hg : p.tag = some g) (hv : (s.counted n p).verdictProfile g = (used, u)) :
    s.verdict = u.concluded n (u.verdictReasons (s.countedPallet p) g used) := by
  rw [verdict_of ht h, hg]
  simp only [hv]

theorem verdict_ended_snapshot (ht : s.cku.track = some n) (h : s.pallet n = some p) (hg : p.tag = some g)
    (hf : s.cku.frame = .ended) (hs : s.cku.snapshot = some f) :
    s.verdict = (s.counted n p).concluded n (weighed p f g.units ++ measured p f) := by
  have hv : (s.counted n p).verdictProfile g = (some f, s.counted n p) :=
    (verdictProfile_frame_ended (s := s.counted n p) hf).trans (congrArg (·, _) hs)
  rw [verdict_tagged ht h hg hv, verdictReasons_ended (s := s.counted n p) hf hs]
  rfl

theorem verdict_ended_no_snapshot (ht : s.cku.track = some n) (h : s.pallet n = some p) (hg : p.tag = some g)
    (hf : s.cku.frame = .ended) (hs : s.cku.snapshot = none) :
    s.verdict = (s.counted n p).concluded n [] := by
  have hv : (s.counted n p).verdictProfile g = (none, s.counted n p) :=
    (verdictProfile_frame_ended (s := s.counted n p) hf).trans (congrArg (·, _) hs)
  have hf' : (s.counted n p).cku.frame = .ended := hf
  rw [verdict_tagged ht h hg hv, verdictReasons_none, if_neg (by rw [hf']; decide)]

/-- The reasons a frame that ended gives a record. -/
def endedReasons (p : Pallet) (snapshot : Option Profile) : List Reason :=
  match p.tag, snapshot with
  | none, _ => [.noTag]
  | some _, none => []
  | some g, some f => weighed p f g.units ++ measured p f

theorem verdict_ended (ht : s.cku.track = some n) (h : s.pallet n = some p) (hf : s.cku.frame = .ended) :
    s.verdict = (s.counted n p).concluded n (endedReasons p s.cku.snapshot) := by
  unfold endedReasons
  cases hg : p.tag with
  | none => exact verdict_untagged ht h hg
  | some g => cases hs : s.cku.snapshot with
    | none => exact verdict_ended_no_snapshot ht h hg hf hs
    | some f => exact verdict_ended_snapshot ht h hg hf hs

/-- Without a frame, against the profile as it stands (R62). -/
theorem verdict_no_scan_valid {holds : Bool} {u : State} (ht : s.cku.track = some n) (h : s.pallet n = some p)
    (hg : p.tag = some g) (hf : s.cku.frame = .timedOut)
    (hr : (s.counted n p).readProfileOf g.product = (.valid f holds, u)) :
    s.verdict = (u.modCku fun c => { c with recipe := some f.recipe }).concluded n (weighed p f g.units) := by
  have hu : (u.modCku fun c => { c with recipe := some f.recipe }).cku.frame = .timedOut :=
    (congrArg CheckUnit.frame (readProfileOf_cku hr)).trans hf
  rw [verdict_tagged ht h hg (verdictProfile_valid hf hr), verdictReasons_no_scan hu]
  rfl

/-- Without a frame and without a profile (R62). -/
theorem verdict_no_scan_missing {e : Entry Profile} {u : State} (ht : s.cku.track = some n) (h : s.pallet n = some p)
    (hg : p.tag = some g) (hf : s.cku.frame = .timedOut) (hr : (s.counted n p).readProfileOf g.product = (e, u))
    (he : (∃ holds, e = .empty holds) ∨ e = .damaged) : s.verdict = u.concluded n [.noProfile] := by
  have hu : u.cku.frame = .timedOut := (congrArg CheckUnit.frame (readProfileOf_cku hr)).trans hf
  rw [verdict_tagged ht h hg (verdictProfile_missing hf hr he), verdictReasons_none, if_pos hu]

/-- The weight's reasons among those of a frame that ended: a bound itself passes (R61). -/
theorem weightLow_mem {w : Nat} (hw : p.gross = some w) : .weightLow ∈ weighed p f g.units ++ measured p f ↔
    w + f.tolerance < f.tare + g.units * f.unitWeight := by
  have hm : .weightLow ∉ measured p f := by
    unfold measured
    cases p.profile with
    | none => simp
    | some r => dsimp only; split <;> simp
  simp [hm, weighed, hw]

theorem weightHigh_mem {w : Nat} (hw : p.gross = some w) : .weightHigh ∈ weighed p f g.units ++ measured p f ↔
    f.tare + g.units * f.unitWeight + f.tolerance < w := by
  have hm : .weightHigh ∉ measured p f := by
    unfold measured
    cases p.profile with
    | none => simp
    | some r => dsimp only; split <;> simp
  simp [hm, weighed, hw]

end

end State
open State

/-- The verdict on a frame that was taken. -/
theorem verdict_on_frame {s : State} {n : TrackNo} {p : Pallet} (ht : s.cku.track = some n)
    (h : s.pallet n = some p) (hf : s.cku.frame = .ended) :
    s.verdict.cku.state = .done ∧ s.verdict.trt.checkSeq = s.trt.checkSeq + 1 ∧ s.verdict.lbu = s.lbu ∧
    (∀ m, m ≠ n → s.verdict.pallet m = s.pallet m) ∧
    ∃ q, s.verdict.pallet n = some q ∧ SameCheck (s.countedPallet p) q ∧
      (q.reasons = addAll (endedReasons p s.cku.snapshot) p.reasons ∨
        (addAll (endedReasons p s.cku.snapshot) p.reasons = [] ∧ q.reasons = [.noDemand])) := by
  rw [verdict_ended ht h hf]
  obtain ⟨hdone, hlbu, q, written, same, hq⟩ :=
    concluded_writes (s.counted_pallet n p) (endedReasons p s.cku.snapshot)
  refine ⟨hdone, written.checkSeq, hlbu, fun m hm => ?_, q, written.same, same, hq⟩
  rw [written.other hm]
  exact (pallet_putPallet n m _ _).trans (if_neg hm)

/-- Settles O48: the verdict by what ends the wait (frame or time-out) and what the profile reads as; then the plan copied. -/
theorem verdictIsTaken : Obligations.VerdictIsTaken := by
  refine ⟨fun s n p hc ht h => ⟨tryVerdict_waits, fun hw hf => ?_⟩, fun s n p hc ht h hw => ⟨fun hf hg => ?_, fun g hg =>
    ⟨fun hf hs => ?_, fun f hf hs => ?_, fun hf => ⟨fun hs => ?_, fun i hs => ⟨fun f he => ?_, fun he => ?_,
      fun f he => ?_⟩⟩⟩⟩, fun s n p h => ⟨⟨copyPlan_zero h rfl, copyPlan_zero h rfl⟩, fun i => ?_⟩⟩
  · rw [tryVerdict_in hc hw (.inl hf)]
    obtain ⟨hdone, hseq, hlbu, hother, q, hq, same, hreasons⟩ := verdict_on_frame ht h hf
    refine ⟨q, hq, hdone, hseq, same.checkSeq, same.verdictTime, same.state, same.gross, same.attempts, hother,
      fun b hb => ?_, fun hg => ?_, fun g f w hg hs hw' => ?_⟩
    · cases b <;> simp [Block.same, hlbu] at hb ⊢
    · have hrs : endedReasons p s.cku.snapshot = [.noTag] := by simp [endedReasons, hg]
      rw [hrs] at hreasons
      exact hreasons.resolve_right fun hn => addReason_ne_nil .noTag p.reasons hn.1
    · have hrs : endedReasons p s.cku.snapshot = weighed p f g.units ++ measured p f := by
        simp [endedReasons, hg, hs]
      rw [hrs] at hreasons
      have low := mem_concluded (r := .weightLow) (by decide) hreasons
      have high := mem_concluded (r := .weightHigh) (by decide) hreasons
      rw [weightLow_mem hw'] at low
      rw [weightHigh_mem hw'] at high
      exact ⟨fun hl => low.mpr (.inl hl), fun hh => high.mpr (.inl hh), fun hl hh =>
        ⟨low.trans (or_iff_right (by omega)), high.trans (or_iff_right (by omega))⟩⟩
  · rw [tryVerdict_in hc hw hf]
    exact verdict_untagged ht h hg
  · rw [tryVerdict_in hc hw (.inl hf)]
    exact verdict_ended_no_snapshot ht h hg hf hs
  · rw [tryVerdict_in hc hw (.inl hf)]
    exact verdict_ended_snapshot ht h hg hf hs
  · rw [tryVerdict_in hc hw (.inr hf)]
    exact verdict_no_scan_missing ht h hg hf (readProfileOf_no_slot hs) (.inl ⟨_, rfl⟩)
  · rw [tryVerdict_in hc hw (.inr hf)]
    exact verdict_no_scan_valid ht h hg hf (readProfileOf_valid hs he)
  · rw [tryVerdict_in hc hw (.inr hf)]
    exact verdict_no_scan_missing ht h hg hf (readProfileOf_not_valid hs he) he
  · rw [tryVerdict_in hc hw (.inr hf)]
    exact verdict_no_scan_missing ht h hg hf (readProfileOf_failing hs he) (.inr rfl)
  · have hi : recipeEntry ((some (i.val + 1)).getD 0) = some i := by
      revert i; decide
    exact ⟨fun r he => copyPlan_valid h hi he, fun he => copyPlan_not_valid h hi he,
      fun r he => copyPlan_failing h hi he⟩

end Sys2Proof.Machine

namespace Sys2Proof.Machine

namespace State

/-! ### The places of REMOVE PALLET (R20) -/

/-- The place of the table that a zone is by itself, in no JAMMED or UNCERTAIN pair. -/
def ownPlace (s : State) (p : Pallet) : Zone → Option RemovalPlace
  | .sp 3 => some .spurExit
  | .wrap w => if p.state = .wrapStopped ∧ ((s.wrapper w).state = .faulted ∨ (s.wrapper w).state = .offline)
      then some (.wrapper w) else none
  | .gate n => if p.orphaned then some (.gate n) else none
  | _ => none

section
variable {s : State} {p : Pallet} {z : Zone}

theorem removalPlace_own (ho : p.state ≠ .offLine) (hz : p.location = some z)
    (hj : (s.zone z).state ≠ .jammed) (hu : (s.zone z).state ≠ .uncertain) : s.removalPlace p = s.ownPlace p z := by
  simp only [removalPlace, if_neg ho, hz]
  split
  · rename_i q hs _; exact absurd hs hj
  · rename_i q hs _; exact absurd hs hu
  · rfl

theorem removalPlace_pair {q : Zone} (ho : p.state ≠ .offLine) (hz : p.location = some z)
    (hs : (s.zone z).state = .jammed ∨ (s.zone z).state = .uncertain) (hq : (s.zone z).partner = some q) :
    s.removalPlace p = some (.pair z q) := by
  rcases hs with hs | hs <;> simp [removalPlace, ho, hz, hs, hq]

/-- Only SP-4, a wrapper zone and a gate are places by themselves. -/
theorem ownPlace_elsewhere (hw : ∀ w, z ≠ .wrap w) (hg : ∀ n, z ≠ .gate n) (h3 : z ≠ .sp 3) :
    s.ownPlace p z = none := by
  unfold ownPlace
  split
  · exact absurd rfl h3
  · exact absurd rfl (hw _)
  · exact absurd rfl (hg _)
  · rfl

end

/-! ### REMOVE PALLET taken (R21, R126) -/

/-- A wrapper whose load left by hand (R126). -/
theorem emptied_eq (s : State) (w : Wrapper) : s.emptied w = s.putWrapper w { s.wrapper w with
    load := .none, sheetDone := false, cutDone := false, abortPending := false, dischargeUnderWay := false
    state := if (s.wrapper w).state = .loading ∨ (s.wrapper w).state = .discharging ∨ (s.wrapper w).state = .stopped
      then .idle else (s.wrapper w).state } := by
  have hst : (match (s.wrapper w).state with
      | .loading | .discharging | .stopped | .idle => WrapperState.idle
      | other => other) = if (s.wrapper w).state = .loading ∨ (s.wrapper w).state = .discharging ∨
        (s.wrapper w).state = .stopped then .idle else (s.wrapper w).state := by
    cases (s.wrapper w).state <;> rfl
  rw [← hst]
  rfl

@[simp] theorem zone_pairRemoved (z q y : Zone) (s : State) : (s.pairRemoved z q).zone y = s.zone y := by
  unfold pairRemoved
  split <;> rfl

/-- The zones of a place whose eyes are clear become FREE. -/
theorem clearPlace_of_clear {s : State} {place : RemovalPlace} (h : s.eyesClear place = true) :
    s.clearPlace place = match place with
      | .offLine => s
      | .spurExit => s.putZone (.sp 3) ZoneRecord.free
      | .gate g => s.putZone (.gate g) ZoneRecord.free
      | .wrapper w => (s.emptied w).putZone (.wrap w) ZoneRecord.free
      | .pair z q => ((s.pairRemoved z q).putZone z ZoneRecord.free).putZone q ZoneRecord.free := by
  cases place with
  | offLine => rfl
  | spurExit => exact freeZone_of_clear (by simpa [eyesClear] using h)
  | gate g => exact freeZone_of_clear (by simpa [eyesClear] using h)
  | wrapper w =>
    have he : ((s.emptied w).zone (.wrap w)).eye = false := by
      show (s.zone (.wrap w)).eye = false
      simpa [eyesClear] using h
    exact freeZone_of_clear he
  | pair z q =>
    simp only [eyesClear, Bool.and_eq_true, Bool.not_eq_true'] at h
    obtain ⟨hz, hq⟩ := h
    have hz' : ((s.pairRemoved z q).zone z).eye = false := by simpa using hz
    have hq' : (((s.pairRemoved z q).putZone z ZoneRecord.free).zone q).eye = false := by
      rw [zone_putZone]
      split
      · rfl
      · simpa using hq
    rw [clearPlace, freeZone_of_clear hz', freeZone_of_clear hq']

/-- The record retired with its notice (R7, R19). -/
theorem retireRemoved_of {n : TrackNo} {p : Pallet} {s : State} (h : s.pallet n = some p) :
    s.retireRemoved n = (s.notify
      (.pallet (if p.serial.isSome then .voided else .removed) n none p.serial none false [])).retire n := by
  have hev : palletEvent (if p.serial.isSome then .voided else .removed) n p none =
      .pallet (if p.serial.isSome then .voided else .removed) n none p.serial none false [] := by
    cases hs : p.serial <;> simp only [palletEvent, hs] <;> rfl
  simp only [retireRemoved, h, hev]

/-- The assignment released and the record taken off the OFF_LINE list, the first steps of R21. -/
def unlisted (n : TrackNo) (s : State) : State :=
  (s.releaseAssignment n).modTrt fun t => { t with offLine := t.offLine.filter (· != n) }

theorem unlisted_pallet {n : TrackNo} {p : Pallet} {s : State} (h : s.pallet n = some p) (m : TrackNo) :
    (s.unlisted n).pallet m = if m = n then some { p with assignment := none } else s.pallet m :=
  pallet_releaseAssignment h m

@[simp] theorem unlisted_frame (n : TrackNo) (s : State) :
    (s.unlisted n).obk = (s.releaseAssignment n).obk ∧ (s.unlisted n).cku = s.cku ∧ (s.unlisted n).znc = s.znc ∧
    (s.unlisted n).wsq = s.wsq ∧ (s.unlisted n).lbu = s.lbu ∧ (s.unlisted n).lnu = s.lnu ∧
    (s.unlisted n).sdu = s.sdu ∧ (s.unlisted n).lku = s.lku ∧ (s.unlisted n).lsv = s.lsv ∧
    (s.unlisted n).pins = s.pins ∧ (s.unlisted n).ports = s.ports ∧ (s.unlisted n).freeCount = s.freeCount ∧
    (s.unlisted n).pending = s.pending := by
  simp [unlisted]

theorem unlisted_eyesClear (n : TrackNo) (place : RemovalPlace) (s : State) :
    (s.unlisted n).eyesClear place = s.eyesClear place := by
  have hz : ∀ z, (s.unlisted n).zone z = s.zone z := fun z => zone_congr (by simp) z
  cases place <;> simp [eyesClear, hz]

/-- REMOVE PALLET from a place of the table (R21). -/
theorem removePallet_of {n : TrackNo} {p : Pallet} {s : State} (h : s.pallet n = some p) (place : RemovalPlace) :
    s.removePallet n place = (((s.unlisted n).clearPlace place).notify
      (.pallet (if p.serial.isSome then .voided else .removed) n none p.serial none false [])).retire n := by
  have hp : ((s.unlisted n).clearPlace place).pallet n = some { p with assignment := none } :=
    (pallet_congr (by simp) n).trans ((unlisted_pallet h n).trans (if_pos rfl))
  exact retireRemoved_of (p := { p with assignment := none }) hp

/-- What REMOVE PALLET leaves: the record gone and off the OFF_LINE list, its place in the order given back, its notice
made; the other records and blocks as they were. -/
theorem removePallet_effect {n : TrackNo} {p : Pallet} {s : State} (h : s.pallet n = some p) (place : RemovalPlace) :
    let t := s.removePallet n place
    t.pallet n = none ∧ t.trt.offLine = s.trt.offLine.filter (· != n) ∧ (∀ m, m ≠ n → t.pallet m = s.pallet m) ∧
    t.obk = (s.releaseAssignment n).obk ∧
    (s.lku.notices.length < 32 → t.lku.notices = s.lku.notices ++
      [⟨.pallet (if p.serial.isSome then .voided else .removed) n none p.serial none false [], s.now, s.lku.gap⟩]) := by
  have hnow : ((s.unlisted n).clearPlace place).now = s.now := by simp [now]
  have hpal : ∀ m, (((s.unlisted n).clearPlace place).notify (.pallet (if p.serial.isSome then .voided else .removed) n
      none p.serial none false [])).pallet m = (s.unlisted n).pallet m := fun m => pallet_congr (by simp) m
  simp only [removePallet_of h]
  refine ⟨by simp [pallet_retire], by simp [unlisted], fun m hm => ?_, by simp, fun hroom => ?_⟩
  · rw [pallet_retire, if_neg hm, hpal, unlisted_pallet h, if_neg hm]
  · rw [(retire_link n _).1, notify_notices (by simpa using hroom), hnow]
    simp

end State
open State

/-- Settles O25: the place by `removalPlace`, then the request by the outcomes of `removeCheck`. -/
theorem palletIsRemovedFromItsPlace : Obligations.PalletIsRemovedFromItsPlace := by
  refine ⟨fun s p => ⟨fun ho => if_pos ho, fun ho hl => ?_, fun z hz ho => ⟨fun q hs hq => removalPlace_pair ho hz hs hq,
    fun hj hu => ?_⟩⟩, emptied_eq, fun s tag n hears => ?_⟩
  · simp [removalPlace, ho, hl]
  · rw [removalPlace_own ho hz hj hu]
    refine ⟨fun h => ?_, fun w h => ?_, fun n h => ?_, ownPlace_elsewhere⟩ <;> subst h <;> rfl
  · have answered {u : State} {st : Status} (h : actRemovePallet n s = (u, .now st [])) :
        exec (.removePallet tag (u8 n.number)) s = .next (u.replied tag 0x2B st []) :=
      congrArg Host.Outcome.next (heard hears (by rw [← h]; simp [reqRemovePallet]))
    refine ⟨fun h => answered (by simp [actRemovePallet, removeCheck, h]), fun p h => ⟨fun hno => answered ?_,
      fun place hplace => ⟨fun heye => answered ?_, fun heye => ?_⟩⟩⟩
    · simp [actRemovePallet, removeCheck, h, hno]
    · simp [actRemovePallet, removeCheck, h, hplace, heye]
    · have hcheck : s.removeCheck n = .ok place := by simp [removeCheck, h, hplace, heye]
      have hclear := clearPlace_of_clear ((unlisted_eyesClear n place s).trans heye)
      obtain ⟨hgone, hoff, hother, hobk, hnotices⟩ := removePallet_effect h place
      have htrt : ((s.removePallet n place).settle.replied tag 0x2B .ok []).trt = (s.removePallet n place).trt := by simp
      refine ⟨(s.removePallet n place).settle.replied tag 0x2B .ok [],
        answered (by simp [actRemovePallet, hcheck]), ?_, ?_, ?_, fun m hm => ?_, ?_, fun hroom => ?_, fun b hb => ?_⟩
      · rw [removePallet_of h, hclear]
        cases place <;> rfl
      · rw [pallet_congr htrt, hgone]
      · rw [htrt, hoff]
      · rw [pallet_congr htrt, hother m hm]
      · simpa using hobk
      · simpa using hnotices hroom
      · cases b <;> simp [Block.same] at hb ⊢

end Sys2Proof.Machine

namespace Sys2Proof.Machine

/-! ### The resets (R208) -/

@[simp] theorem Pair.face_same {α : Type} (x : α) (f : Face) : (Pair.mk x x).face f = x := by cases f <;> rfl

/-- Marking an entry DAMAGED leaves the job slots and the write timer. -/
theorem Store.mark_slots (d : Store) (id : EntryId) :
    (d.mark id).host = d.host ∧ (d.mark id).reservation = d.reservation ∧ (d.mark id).writeTimer = d.writeTimer := by
  cases id <;> exact ⟨rfl, rfl, rfl⟩

/-- The verification at start-up leaves the job slots and the write timer. -/
theorem Store.verify_slots (d : Store) :
    d.verify.host = d.host ∧ d.verify.reservation = d.reservation ∧ d.verify.writeTimer = d.writeTimer := by
  unfold Store.verify
  cases d.marker with
  | none => exact ⟨rfl, rfl, rfl⟩
  | some id => exact d.mark_slots id

namespace State

/-- A notice changes of the link the notice queue and the gap mark alone. -/
theorem notify_lku (e : Event) (s : State) :
    ∃ notices gap, (s.notify e).lku = { s.lku with notices := notices, gap := gap } := by
  unfold notify
  split
  · exact ⟨_, _, rfl⟩
  · exact ⟨s.lku.notices, true, rfl⟩

/-- The notices of a list of entries change of the link the same, and nothing for no entry. -/
theorem storeNotices_lku (ids : List EntryId) (s : State) : ∃ notices gap,
    (ids.foldl (fun s id => s.storeNotice .damaged id none) s).lku = { s.lku with notices := notices, gap := gap } ∧
    (ids = [] → notices = s.lku.notices ∧ gap = s.lku.gap) := by
  induction ids generalizing s with
  | nil => exact ⟨_, _, rfl, fun _ => ⟨rfl, rfl⟩⟩
  | cons id ids ih =>
    obtain ⟨ns, g, h⟩ := notify_lku (.store .damaged id (s.sdu.keyOf id) none 0 0) s
    obtain ⟨ns', g', h', -⟩ := ih (s.storeNotice .damaged id none)
    exact ⟨ns', g', h'.trans (by rw [storeNotice, h]), fun he => by cases he⟩

/-- A status query sent on an idle channel. -/
theorem send_wsq {w : Wrapper} {s : State} (h : (s.wrapper w).channel.state = .idle) (kind : PassKind)
    (prestretch : Nat) (film : Option Nat) : (s.send w kind prestretch film).wsq =
      s.wsq.setWrapper w { s.wrapper w with channel := (s.wrapper w).channel.send kind s.now } := by
  simp [send, h, modWrapper, putWrapper]

/-- Without frames of any other kind to send, the transmitter takes at most a notice. -/
theorem pump_quiet {s : State} (hr : s.lku.replies = []) (hq : s.lku.queries = []) :
    ∃ notices sending, s.pump.lku = { s.lku with notices := notices, sending := sending } ∧
      (s.lku.notices = [] → notices = [] ∧ sending = s.lku.sending) := by
  unfold pump
  split
  · exact ⟨_, _, rfl, fun h => ⟨h, rfl⟩⟩
  · cases hn : s.lku.notices with
    | nil =>
      have nothing : s.lku.choose = s.lku := by simp [Link.choose, hr, hq, hn]
      exact ⟨[], s.lku.sending, nothing.trans (by rw [← hn]), fun _ => ⟨rfl, rfl⟩⟩
    | cons a rest => exact ⟨rest, some (.notice a), by simp [Link.choose, hr, hq, hn], fun h => by cases h⟩

/-- What every reset leaves, block by block: the reset values, with the status queries sent unless the part is held in
reset, and the notices of the DAMAGED entries. -/
structure ResetFrom (s t : State) : Prop where
  trt : t.trt = Track.reset
  obk : t.obk = Book.reset
  cku : t.cku = CheckUnit.reset
  znc : t.znc = ZoneUnit.reset s.znc.div1Out s.znc.div2Out
  lnu : t.lnu = Vector.replicate 6 LaneRecord.reset
  lbu : t.lbu = LabelUnit.reset
  lsv : ∃ kind supply input, t.lsv = Supervisor.reset kind supply input
  pins : t.pins = s.pins
  pending : t.pending = s.pending
  wsq : t.wsq = if t.inReset then ⟨WrapperRecord.reset, WrapperRecord.reset⟩
    else ⟨WrapperRecord.startUp, WrapperRecord.startUp⟩
  slots : t.sdu.host = .empty ∧ t.sdu.reservation = .empty ∧ t.sdu.writeTimer = false
  lku : ∃ notices gap sending, t.lku = { Link.reset with notices := notices, gap := gap, sending := sending } ∧
    (t.inReset = true ∨ t.sdu.damagedEntries = [] → notices = [] ∧ gap = false ∧ sending = none)

/-- A reset into a part that stays in reset. -/
theorem resetTo_held {s u : State} {kind : ResetKind} {supply input : Bool} (hz : u.znc = s.znc) (hp : u.pins = s.pins)
    (hq : u.pending = s.pending) (h : supply = false ∨ input = true) : ResetFrom s (u.resetTo kind supply input) := by
  have hr : (u.resetTo kind supply input).inReset = true := by
    rcases h with rfl | rfl <;> simp [inReset, resetTo, resetValues, Supervisor.reset]
  exact {
    trt := rfl, obk := rfl, cku := rfl, lnu := rfl, lbu := rfl
    znc := by rw [← hz]; rfl
    lsv := ⟨kind, supply, input, rfl⟩
    pins := hp
    pending := hq
    wsq := by rw [hr]; rfl
    slots := ⟨rfl, rfl, rfl⟩
    lku := ⟨[], false, none, rfl, fun _ => ⟨rfl, rfl, rfl⟩⟩ }

/-- The status queries of start-up, sent to two stations at their reset values (R111, R128). -/
theorem statusQueries_wsq {s : State} (h : s.wsq = ⟨WrapperRecord.reset, WrapperRecord.reset⟩)
    (hnow : s.now = ⟨0, true⟩) : ((s.send .a .statusQuery 0 none).send .b .statusQuery 0 none).wsq =
      ⟨WrapperRecord.startUp, WrapperRecord.startUp⟩ := by
  have ha : (s.wrapper .a).channel.state = .idle := by simp [wrapper, h]; rfl
  have hwa := send_wsq ha .statusQuery 0 none
  have hb : ((s.send .a .statusQuery 0 none).wrapper .b).channel.state = .idle := by
    simp [wrapper, hwa, h]; rfl
  have hnow' : (s.send .a .statusQuery 0 none).now = ⟨0, true⟩ := by rw [← hnow]; simp [now]
  rw [send_wsq hb, hnow', wrapper, hwa, hnow, wrapper, h]
  rfl

/-- A reset into POWER_UP: the store verified, its DAMAGED entries reported, the status queries sent. -/
theorem resetTo_begins {s u : State} {kind : ResetKind} (hz : u.znc = s.znc) (hp : u.pins = s.pins)
    (hq : u.pending = s.pending) : ResetFrom s (u.resetTo kind true false).beginPowerUp := by
  let r := u.resetTo kind true false
  let v := r.sdu.verify.damagedEntries.foldl (fun s id => s.storeNotice .damaged id none) (r.modSdu Store.verify)
  let w := (v.send .a .statusQuery 0 none).send .b .statusQuery 0 none
  have hlsv : r.beginPowerUp.lsv = Supervisor.reset kind true false := by simp [r, resetTo, resetValues]
  have hr : r.beginPowerUp.inReset = false := by rw [inReset, hlsv]; rfl
  have hsdu : r.beginPowerUp.sdu = r.sdu.verify := by simp [beginPowerUp]
  have hvlsv : v.lsv = Supervisor.reset kind true false := by simp [v, r, resetTo, resetValues]
  have hwsq : w.wsq = ⟨WrapperRecord.startUp, WrapperRecord.startUp⟩ :=
    statusQueries_wsq (by simp [v, r, resetTo, resetValues]) (by rw [now, hvlsv]; rfl)
  obtain ⟨ns, g, hv, hnone⟩ := storeNotices_lku r.sdu.verify.damagedEntries (r.modSdu Store.verify)
  have hw : w.lku = { Link.reset with notices := ns, gap := g } := by simp only [w, send_frame]; exact hv
  obtain ⟨ns', sending, hpump, hquiet⟩ := pump_quiet (s := w) (by rw [hw]; rfl) (by rw [hw]; rfl)
  exact {
    trt := by simp [resetTo, resetValues]
    obk := by simp [resetTo, resetValues]
    cku := by simp [resetTo, resetValues]
    znc := by simp [resetTo, resetValues, hz]
    lnu := by simp [resetTo, resetValues]
    lbu := by simp [resetTo, resetValues]
    lsv := ⟨kind, true, false, hlsv⟩
    pins := by simp [resetTo, resetValues, hp]
    pending := by simp [resetTo, resetValues, hq]
    wsq := by rw [hr]; exact (pump_frame w).2.2.2.2.1.trans hwsq
    slots := by rw [hsdu]; exact r.sdu.verify_slots
    lku := by
      refine ⟨ns', g, sending, hpump.trans (by rw [hw]), fun hc => ?_⟩
      rw [hr, hsdu] at hc
      obtain ⟨hns, hg⟩ := hnone (hc.resolve_left (by decide))
      obtain ⟨hns', hs⟩ := hquiet (by rw [hw]; exact hns)
      exact ⟨hns', hg, hs.trans (by rw [hw]; rfl)⟩ }

/-! ### The four resets -/

theorem powerLoss_resets (s : State) : ResetFrom s s.powerLoss :=
  resetTo_held (by simp) (by simp) (by simp) (.inl rfl)

theorem powerOn_resets (s : State) : ResetFrom s s.powerOn := by
  cases hi : s.lsv.resetInput with
  | false =>
    have hs : s.powerOn = (s.cutOffWrite.resetTo .powerOn true false).beginPowerUp := by
      simp only [powerOn, hi]; rfl
    rw [hs]
    exact resetTo_begins (by simp) (by simp) (by simp)
  | true =>
    have hs : s.powerOn = s.cutOffWrite.resetTo .powerOn true true := by
      simp only [powerOn, hi]; rfl
    rw [hs]
    exact resetTo_held (by simp) (by simp) (by simp) (.inr rfl)

theorem assertReset_resets {s : State} (h : s.lsv.resetInput = false) : ResetFrom s s.assertReset := by
  simp only [assertReset, h]
  exact resetTo_held (by simp) (by simp) (by simp) (.inr rfl)

theorem requestedReset_resets {s : State} (h : s.drained = true ∧ s.lku.sending = none ∧ s.inReset = false) :
    ResetFrom s s.requestedReset := by
  obtain ⟨hd, hs, hr⟩ := h
  have hin : s.lsv.supply = true ∧ s.lsv.resetInput = false := by simpa [inReset] using hr
  simp only [requestedReset, hd, hs, hr, hin, if_true, and_self]
  exact resetTo_begins rfl rfl rfl

end State
open State

/-- Each of the four commands that reset the part ends in the reset values. -/
theorem exec_resets {c : Instr} {s : State} (h : c = .powerOn ∨ (c = .resetInput ∧ s.lsv.resetInput = false) ∨
    c = .powerLoss ∨ (c = .resetRequest ∧ s.drained = true ∧ s.lku.sending = none ∧ s.inReset = false)) :
    ∃ t, exec c s = .next t ∧ ResetFrom s t := by
  rcases h with rfl | ⟨rfl, hi⟩ | rfl | ⟨rfl, hd⟩
  · exact ⟨_, rfl, powerOn_resets s⟩
  · exact ⟨_, rfl, assertReset_resets hi⟩
  · exact ⟨_, rfl, powerLoss_resets s⟩
  · exact ⟨_, rfl, requestedReset_resets hd⟩

/-- Settles O7: every reset ends in one common shape of state (`exec_resets`), from which the clauses follow. -/
theorem everyResetLosesTheState : Obligations.EveryResetLosesTheState := by
  intro c s h
  obtain ⟨t, ht, done⟩ := exec_resets h
  obtain ⟨htrt, hobk, hcku, hznc, hlnu, hlbu, ⟨kind, supply, input, hlsv⟩, hpins, hpending, hwsq, ⟨hhost, hres, htimer⟩,
    notices, gap, sending, hlku, hquiet⟩ := done
  have hpallet : ∀ n, t.pallet n = none := fun n => by simp [State.pallet, htrt, Track.reset]
  have hlane : ∀ n, t.lane n = LaneRecord.reset := fun n => by simp [State.lane, hlnu]
  have hzone : ∀ z, t.zone z = ZoneRecord.free := fun z => by simp [State.zone, hznc, ZoneUnit.reset]
  have hwrapper : ∀ w, t.wrapper w = { WrapperRecord.reset with
      channel := if t.inReset then Channel.reset else WrapperRecord.startUp.channel } := fun w => by
    rw [State.wrapper, hwsq]
    cases t.inReset <;> cases w <;> rfl
  have howed : t.owedCount = 0 := by
    rw [owedCount, hwsq]
    cases t.inReset <;> rfl
  have hface : ∀ f, t.faceStep f = .unset := fun f => by
    rw [faceStep, hlbu]
    exact Pair.face_same _ f
  refine ⟨t, ht, hpallet, ?_⟩
  simpa [htrt, hobk, hcku, hlane, hzone, hznc, hface, howed, hwrapper, hpins, hpending, hhost, hres, htimer, hlbu, hlsv,
    hlku, Track.reset, Book.reset, CheckUnit.reset, Counts.zero, Heads.none, LaneRecord.reset, ZoneUnit.reset,
    ZoneRecord.free, Link.reset, Supervisor.reset, LabelUnit.reset, WrapperRecord.reset, WrapperRecord.startUp,
    Channel.reset] using hquiet

end Sys2Proof.Machine

namespace Sys2Proof.Machine

/-! ### The operands of the OBSERVE requests out of their ranges (R187) -/

theorem argTrack_out_of_range {b : Byte} (h : b.toNat = 0 ∨ 24 < b.toNat) : argTrack [b] = .error .outOfRange := by
  have hno : TrackNo.ofNumber b.toNat = none := dif_neg (by omega)
  simp [argTrack, structured, rdOne8, rdU8, named, hno, bind, Except.bind]

theorem range_bad {lo hi n : Nat} (h : n < lo ∨ hi < n) : range lo hi n = (false, .outOfRange) := by
  simp only [range, within, Prod.mk.injEq, and_true, Bool.and_eq_false_iff, decide_eq_false_iff_not]
  omega

theorem argOrder_out_of_range {n : Nat} (h : n = 0 ∨ 999999 < n) (hw : n < 4294967296) :
    argOrder (u32 n) = .error .outOfRange := by
  have hm : n % 4294967296 = n := Nat.mod_eq_of_lt hw
  have hr := rdU32_u32 n []
  rw [List.append_nil, hm] at hr
  simp [argOrder, structured, hr, bind, Except.bind, checkedBy, firstBad_cons, range_bad (by omega : n < 1 ∨ 999999 < n)]

theorem argProduct_u16 {n : Nat} (h : 1 ≤ n) (h' : n ≤ 65535) : argProduct (u16 n) = .ok n := by
  have hm : n % 65536 = n := Nat.mod_eq_of_lt (by omega)
  have hr := rdU16_u16 n []
  rw [List.append_nil, hm] at hr
  simp [argProduct, structured, hr, bind, Except.bind, checkedBy, firstBad_cons, range_good h h']

@[simp] theorem argRecipe_u8 (i : Fin 16) : argRecipe (u8 (i.val + 1)) = .ok i := by
  simp [argRecipe, structured, named, bind, Except.bind]

/-- The order and the position of a page, as read from the body. -/
theorem argPage_u32_u8 {n start : Nat} (hn : n < 4294967296) (hs : start < 256) : argPage (u32 n ++ u8 start) =
    checkedBy [range 1 999999 n, range 1 60 start] (n, start) := by
  have h1 := rdU32_u32 n (u8 start)
  have h2 := rdU8_u8 start []
  rw [Nat.mod_eq_of_lt hn] at h1
  rw [List.append_nil, Nat.mod_eq_of_lt hs] at h2
  simp [argPage, structured, h1, h2, bind, Except.bind]

theorem argPage_in_range {n start : Nat} (h : 1 ≤ n) (h' : n ≤ 999999) (hs : 1 ≤ start) (hs' : start ≤ 60) :
    argPage (u32 n ++ u8 start) = .ok (n, start) := by
  rw [argPage_u32_u8 (by omega) (by omega)]
  simp [checkedBy, firstBad_cons, range_good h h', range_good hs hs']

theorem argPage_out_of_range {n start : Nat} (hn : n < 4294967296) (hs : start < 256)
    (h : n = 0 ∨ 999999 < n ∨ start = 0 ∨ 60 < start) : argPage (u32 n ++ u8 start) = .error .outOfRange := by
  rw [argPage_u32_u8 hn hs]
  by_cases hb : n < 1 ∨ 999999 < n
  · simp [checkedBy, firstBad_cons, range_bad hb]
  · have hg : range 1 999999 n = (true, .outOfRange) := range_good (by omega) (by omega)
    have hb' : range 1 60 start = (false, .outOfRange) := range_bad (by omega)
    simp [checkedBy, firstBad_cons, hg, hb']

/-! ### The answers of the OBSERVE requests (R22, R23, R47 to R49, R165, R179) -/

theorem reportRequest_nil (report : State → List Byte) (s : State) :
    reportRequest report [] s = (s, .now .ok (report s)) := rfl

namespace State

/-- A site entry found with a failing check word (R172). -/
theorem damageAtRead_site (s : State) :
    let marked := ((s.modSdu fun d => { d with site := .damaged }).notify (.store .damaged .site none none 0 0)).modLbu
      fun l => { l with block := some .siteDamaged }
    s.damageAtRead .site = if s.sdu.reservation = ReservationSlot.waiting
      then ((marked.modSdu fun d => { d with reservation := .empty }).modLbu fun l => { l with inFlight := false }).notify
        (.store .reservationFailed .site none none 0 0)
      else marked := by
  intro marked
  have hres : marked.sdu.reservation = s.sdu.reservation := by simp [marked]
  have hd : s.damageAtRead .site = match marked.sdu.reservation with
      | .waiting => (marked.modSdu fun d => { d with reservation := .empty }).reservationFailed
      | _ => marked := rfl
  rw [hd, hres]
  cases s.sdu.reservation <;> rfl

/-- The timing entry found with a failing check word (R165). -/
theorem damageAtRead_timing (s : State) : s.damageAtRead .timing =
    (s.modSdu fun d => { d with timing := .damaged }).notify (.store .damaged .timing none none 0 0) := rfl

theorem damageAtRead_site_timing (s : State) : (s.damageAtRead .site).sdu.timing = s.sdu.timing := by
  rw [damageAtRead_site]
  split <;> simp

end State
open State

/-- The reports with no argument. -/
theorem observe_reports (s : State) (tag : Byte) (h : s.hears reqStatus = true) :
    exec (.status tag []) s = .next (s.replied tag 0x01 .ok s.statusReport) ∧
    exec (.listTrack tag []) s = .next (s.replied tag 0x03 .ok s.trackSummary) ∧
    exec (.listOrders tag []) s = .next (s.replied tag 0x05 .ok s.obk.report) ∧
    exec (.readLanes tag []) s = .next (s.replied tag 0x09 .ok s.lanesReport) ∧
    exec (.readZones tag []) s = .next (s.replied tag 0x0A .ok s.zonesReport) ∧
    exec (.readWrappers tag []) s = .next (s.replied tag 0x0B .ok s.wrappersReport) := by
  have report {r : Request} (hc : r.cls = .observe) {data : List Byte} (hh : r.handle tag [] s = (s, .now .ok data)) :
      s.receive r tag [] = s.replied tag r.kind .ok data := heard (hears_of_class h hc) hh
  exact ⟨congrArg _ (report rfl rfl), congrArg _ (report rfl rfl), congrArg _ (report rfl rfl),
    congrArg _ (report rfl rfl), congrArg _ (report rfl rfl), congrArg _ (report rfl rfl)⟩

/-- READ SETTINGS reads the site entry and then the timing entry (R180; log 27). -/
theorem exec_readSettings {s : State} {tag : Byte} (h : s.hears reqStatus = true) :
    exec (.readSettings tag []) s = .next (s.readSite.2.readTiming.2.replied tag 0x0C .ok
      s.readSite.2.readTiming.2.settingsReport) :=
  congrArg Host.Outcome.next (heard (r := reqReadSettings) (hears_of_class h rfl) rfl)

theorem readSite_failing {s : State} {c : SiteData} (h : s.sdu.site = .valid c false) :
    s.readSite.2 = s.damageAtRead .site := by
  rw [readSite, h, readEntry_failing]

theorem readEntry_kept {α : Type} {id : EntryId} {e : Entry α} (h : ∀ a, e ≠ .valid a false) (s : State) :
    (s.readEntry id e).2 = s := by
  cases e with
  | valid a holds =>
    cases holds
    · exact absurd rfl (h a)
    · rfl
  | _ => rfl

theorem readTiming_failing {s : State} {v : TimingValues} (h : s.sdu.timing = .valid v false) :
    s.readTiming.2 = s.damageAtRead .timing := by
  rw [readTiming, h, readEntry_failing]

/-- The read of the two entries as O17 writes it. -/
theorem readSettings_state (s : State) :
    let site := match s.sdu.site with
        | .valid _ false =>
          let marked := ((s.modSdu fun d => { d with site := .damaged }).notify
            (.store .damaged .site none none 0 0)).modLbu fun l => { l with block := some .siteDamaged }
          if s.sdu.reservation = ReservationSlot.waiting
          then ((marked.modSdu fun d => { d with reservation := .empty }).modLbu fun l => { l with
            inFlight := false }).notify (.store .reservationFailed .site none none 0 0)
          else marked
        | _ => s
    s.readSite.2.readTiming.2 = match s.sdu.timing with
        | .valid _ false => (site.modSdu fun d => { d with timing := .damaged }).notify
            (.store .damaged .timing none none 0 0)
        | _ => site := by
  intro site
  have hsite : s.readSite.2 = site ∧ site.sdu.timing = s.sdu.timing := by
    simp only [site]
    split
    · rename_i c hs
      rw [readSite_failing hs, ← damageAtRead_site]
      exact ⟨rfl, damageAtRead_site_timing s⟩
    · rename_i hs
      exact ⟨readEntry_kept hs s, rfl⟩
  obtain ⟨hread, htiming⟩ := hsite
  rw [hread]
  split
  · rename_i v hv
    rw [readTiming_failing (htiming.trans hv), damageAtRead_timing]
  · rename_i hv
    exact readEntry_kept (htiming ▸ hv) site

section
variable {s : State} {tag : Byte}

/-- The answer of a request of the OBSERVE class, in terms of what its owner does. -/
theorem heard_observe {r q : Request} {u : State} {st : Status} {body data : List Byte} (h : s.hears r = true)
    (hr : r.cls = .observe) (hq : q.cls = .observe) (hh : q.handle tag body s = (u, .now st data)) :
    s.receive q tag body = u.replied tag q.kind st data :=
  heard (hears_of_class h (hq.trans hr.symm)) hh

theorem exec_readPallet (h : s.hears reqReadPallet = true) (n : TrackNo) :
    exec (.readPallet tag (u8 n.number)) s = .next (match s.pallet n with
      | some p => s.replied tag 0x02 .ok (s.palletReport n p)
      | none => s.replied tag 0x02 .notFound []) := by
  have answered {st : Status} {data : List Byte} (ha : actReadPallet n s = (s, .now st data)) :
      exec (.readPallet tag (u8 n.number)) s = .next (s.replied tag 0x02 st data) :=
    congrArg Host.Outcome.next (heard h (by rw [← ha]; simp [reqReadPallet]))
  cases hp : s.pallet n with
  | none => exact answered (by simp [actReadPallet, hp])
  | some p => exact answered (by simp [actReadPallet, hp])

theorem exec_readPallet_out_of_range (h : s.hears reqReadPallet = true) {b : Byte} (hb : b.toNat = 0 ∨ 24 < b.toNat) :
    exec (.readPallet tag [b]) s = .next (s.replied tag 0x02 .outOfRange []) :=
  congrArg Host.Outcome.next (heard h (by simp [reqReadPallet, argTrack_out_of_range hb]))

theorem exec_readOrder (h : s.hears reqReadPallet = true) {number : Nat} (h1 : 1 ≤ number) (h2 : number ≤ 999999) :
    exec (.readOrder tag (u32 number)) s = .next (match s.order number with
      | some o => s.replied tag 0x04 .ok o.report
      | none => s.replied tag 0x04 .notFound []) := by
  have answered {st : Status} {data : List Byte} (ha : actReadOrder number s = (s, .now st data)) :
      exec (.readOrder tag (u32 number)) s = .next (s.replied tag 0x04 st data) :=
    congrArg Host.Outcome.next (heard_observe (q := reqReadOrder) h rfl rfl
      (by rw [← ha]; simp [reqReadOrder, argOrder_u32 h1 h2]))
  cases ho : s.order number with
  | none => exact answered (by simp [actReadOrder, ho])
  | some o => exact answered (by simp [actReadOrder, ho])

theorem exec_readOrder_out_of_range (h : s.hears reqReadPallet = true) {number : Nat}
    (hb : number = 0 ∨ 999999 < number) (hw : number < 4294967296) :
    exec (.readOrder tag (u32 number)) s = .next (s.replied tag 0x04 .outOfRange []) :=
  congrArg Host.Outcome.next (heard_observe (q := reqReadOrder) h rfl rfl
    (by simp [reqReadOrder, argOrder_out_of_range hb hw]))

theorem exec_readDispatchList (h : s.hears reqReadPallet = true) {number start : Nat} (h1 : 1 ≤ number)
    (h2 : number ≤ 999999) (h3 : 1 ≤ start) (h4 : start ≤ 60) :
    exec (.readDispatchList tag (u32 number ++ u8 start)) s = .next (match s.order number with
      | some o => s.replied tag 0x06 .ok (o.page start)
      | none => s.replied tag 0x06 .notFound []) := by
  have answered {st : Status} {data : List Byte} (ha : actReadDispatchList (number, start) s = (s, .now st data)) :
      exec (.readDispatchList tag (u32 number ++ u8 start)) s = .next (s.replied tag 0x06 st data) :=
    congrArg Host.Outcome.next (heard_observe (q := reqReadDispatchList) h rfl rfl
      (by rw [← ha]; simp only [reqReadDispatchList, argPage_in_range h1 h2 h3 h4, withArgs_ok]))
  cases ho : s.order number with
  | none => exact answered (by simp [actReadDispatchList, ho])
  | some o => exact answered (by simp [actReadDispatchList, ho])

theorem exec_readDispatchList_out_of_range (h : s.hears reqReadPallet = true) {number start : Nat}
    (hn : number < 4294967296) (hs : start < 256)
    (hb : number = 0 ∨ 999999 < number ∨ start = 0 ∨ 60 < start) :
    exec (.readDispatchList tag (u32 number ++ u8 start)) s = .next (s.replied tag 0x06 .outOfRange []) :=
  congrArg Host.Outcome.next (heard_observe (q := reqReadDispatchList) h rfl rfl
    (by simp only [reqReadDispatchList, argPage_out_of_range hn hs hb, withArgs_error]))

/-- READ PROFILE for a product of the range answers what its owner finds. -/
theorem exec_readProfile {product : Nat} {u : State} {st : Status} {data : List Byte} (h : s.hears reqReadProfile = true)
    (h1 : 1 ≤ product) (h2 : product ≤ 65535) (ha : actReadProfile product s = (u, .now st data)) :
    exec (.readProfile tag (u16 product)) s = .next (u.replied tag 0x07 st data) :=
  congrArg Host.Outcome.next (heard h (by rw [← ha]; simp [reqReadProfile, argProduct_u16 h1 h2]))

theorem exec_readRecipe {i : Fin 16} {u : State} {st : Status} {data : List Byte} (h : s.hears reqReadProfile = true)
    (ha : actReadRecipe i s = (u, .now st data)) :
    exec (.readRecipe tag (u8 (i.val + 1))) s = .next (u.replied tag 0x08 st data) :=
  congrArg Host.Outcome.next (heard_observe (q := reqReadRecipe) h rfl rfl (by rw [← ha]; simp [reqReadRecipe]))

end

end Sys2Proof.Machine

namespace Sys2Proof.Machine

/-! ### Fields of the reports (R212, R215) -/

/-- A code or number that may be absent, as 0. -/
theorem orZero_eq {α : Type} (f : α → Nat) (o : Option α) : orZero f o = (o.map f).getD 0 := by
  cases o <;> rfl

theorem orZero_id (o : Option Nat) : orZero id o = o.getD 0 := by
  cases o <;> rfl

theorem counted_eq {α : Type} (f : α → List Byte) (l : List α) : counted f l = u8 l.length ++ l.flatMap f := by
  rw [counted, List.flatMap_def]

theorem reasonBytes_eq (rs : List Reason) :
    reasonBytes rs = u8 rs.length ++ rs.map fun r => BitVec.ofNat 8 r.code := by
  rw [reasonBytes, counted_eq]
  exact congrArg _ (List.map_eq_flatMap (f := fun r : Reason => BitVec.ofNat 8 r.code)).symm

@[simp] theorem length_u8 (n : Nat) : (u8 n).length = 1 := rfl
@[simp] theorem length_u16 (n : Nat) : (u16 n).length = 2 := rfl
@[simp] theorem length_u32 (n : Nat) : (u32 n).length = 4 := rfl
@[simp] theorem length_flagByte (b : Bool) : (flagByte b).length = 1 := by cases b <;> rfl
@[simp] theorem length_textBytes (t : Text) : (textBytes t).length = t.length + 1 := rfl
@[simp] theorem length_timeBytes (t : Option Stamp) : (timeBytes t).length = 5 := by cases t <;> rfl

/-- A list of fields of one length. -/
theorem length_flatMap_of {α : Type} {f : α → List Byte} {k : Nat} {l : List α} (h : ∀ a ∈ l, (f a).length = k) :
    (l.flatMap f).length = k * l.length := by
  induction l with
  | nil => rfl
  | cons a l ih =>
    rw [List.flatMap_cons, List.length_append, h a (by simp), ih fun b hb => h b (by simp [hb]), List.length_cons]
    rw [Nat.mul_succ, Nat.add_comm]

theorem length_recipeBytes (r : Recipe) : r.bytes.length = 8 := by simp [Recipe.bytes]

theorem length_assignmentBytes (a : Option Assignment) : (assignmentBytes a).length = 5 := by simp [assignmentBytes]

theorem length_weightBytes (w : Option Nat) : (weightBytes w).length = 2 := rfl

theorem length_reasonBytes (rs : List Reason) : (reasonBytes rs).length = 1 + rs.length := by simp [reasonBytes_eq]

theorem TrackNo.all_eq : TrackNo.all = List.finRange 24 := by decide

theorem Lane.all_eq : Lane.all = List.finRange 6 := by decide

/-! ### Track and order reports (R218) -/

namespace State

/-- The marks byte of a record. -/
theorem pallet_marks (p : Pallet) : mark p.tag.isSome 1 + mark p.orphaned 2 + mark p.checkSeq.isSome 4 +
      mark p.profile.isSome 8 + mark (p.profile.any (·.degraded)) 16 + mark (p.profile.any (·.part)) 32 +
      mark p.recipeMissing 64 =
    (if p.tag.isSome then 1 else 0) + (if p.orphaned then 2 else 0) + (if p.checkSeq.isSome then 4 else 0) +
      (match p.profile with
        | some r => 8 + (if r.degraded then 16 else 0) + (if r.part then 32 else 0)
        | none => 0) + (if p.recipeMissing then 64 else 0) := by
  cases p.profile with
  | none => simp [mark]
  | some r => simp only [mark, Option.isSome_some, Option.any_some, if_true]; omega

theorem length_palletReport (s : State) (n : TrackNo) (p : Pallet) : (s.palletReport n p).length =
    70 + (match p.tag with | some t => t.batch.length | none => 0) + p.reasons.length := by
  unfold palletReport
  simp only [List.length_append, length_u8, length_u16, length_u32, length_assignmentBytes, length_weightBytes,
    length_reasonBytes, length_timeBytes]
  cases p.plan <;> cases p.tag <;>
    simp only [List.length_append, length_u16, length_u32, length_textBytes, length_recipeBytes, List.length_cons,
      List.length_nil] <;>
    omega

theorem summaryEntry_of {s : State} {n : TrackNo} {p : Pallet} (h : s.pallet n = some p) : s.summaryEntry n =
    u8 n.number ++ u8 p.state.code ++ u8 ((p.location.map Zone.code).getD 0) ++
      u16 ((p.tag.map (·.product)).getD 0) ++ u8 p.attempts ++ u32 ((p.assignment.map (·.order)).getD 0) ++
      u8 ((p.assignment.map (·.line)).getD 0) ++ flagByte p.orphaned ++ u32 (p.serial.getD 0) ++
      u8 (s.offLinePosition n) := by
  simp only [summaryEntry, h, assignmentBytes, orZero_eq, ← List.append_assoc, Option.map_id_fun, id_eq]

theorem length_summaryEntry {s : State} {n : TrackNo} (h : (s.pallet n).isSome = true) :
    (s.summaryEntry n).length = 17 := by
  obtain ⟨p, hp⟩ := Option.isSome_iff_exists.mp h
  simp [summaryEntry_of hp]

theorem tracks_eq (s : State) : s.tracks = (List.finRange 24).filter fun n => (s.pallet n).isSome := by
  rw [tracks, TrackNo.all_eq]

theorem trackSummary_eq (s : State) : s.trackSummary = u8 s.tracks.length ++ u8 (24 - s.tracks.length) ++
    u8 s.trt.offLine.length ++ u32 s.trt.checkSeq.toNat ++ s.tracks.flatMap s.summaryEntry := by
  rw [List.flatMap_def]
  rfl

theorem length_trackSummary (s : State) : s.trackSummary.length = 7 + 17 * s.tracks.length := by
  have hentries : (s.tracks.flatMap s.summaryEntry).length = 17 * s.tracks.length :=
    length_flatMap_of fun n hn => length_summaryEntry (List.mem_filter.mp hn).2
  simp only [trackSummary_eq, List.length_append, hentries, length_u8, length_u32]

/-! ### The orders in ascending order of creation (R48) -/

end State

theorem Order.insert_perm (o : Order) (l : List Order) : (o.insert l).Perm (o :: l) := by
  induction l with
  | nil => exact .refl _
  | cons q rest ih =>
    rw [Order.insert]
    split
    · exact .refl _
    · exact (ih.cons q).trans (.swap o q rest)

theorem Order.insert_sorted {o : Order} {l : List Order}
    (h : l.Pairwise fun a b => a.creationSeq.toNat ≤ b.creationSeq.toNat) :
    (o.insert l).Pairwise fun a b => a.creationSeq.toNat ≤ b.creationSeq.toNat := by
  induction l with
  | nil => exact List.pairwise_singleton _ _
  | cons q rest ih =>
    obtain ⟨hq, hrest⟩ := List.pairwise_cons.mp h
    rw [Order.insert]
    split
    · rename_i hlt
      refine List.pairwise_cons.mpr ⟨fun a ha => ?_, h⟩
      rcases List.mem_cons.mp ha with rfl | ha
      · exact Nat.le_of_lt hlt
      · exact Nat.le_trans (Nat.le_of_lt hlt) (hq a ha)
    · rename_i hge
      refine List.pairwise_cons.mpr ⟨fun a ha => ?_, ih hrest⟩
      rcases List.mem_cons.mp ((o.insert_perm rest).mem_iff.mp ha) with rfl | ha
      · exact Nat.le_of_not_lt hge
      · exact hq a ha

/-- The orders of a book, each once, in ascending order of creation sequence. -/
theorem Book.ascending_spec (b : Book) : b.ascending.Perm b.orders ∧
    b.ascending.Pairwise fun a c => a.creationSeq.toNat ≤ c.creationSeq.toNat := by
  have walk : ∀ (l acc : List Order), acc.Pairwise (fun a c => a.creationSeq.toNat ≤ c.creationSeq.toNat) →
      (l.foldl (fun l o => o.insert l) acc).Perm (l ++ acc) ∧
      (l.foldl (fun l o => o.insert l) acc).Pairwise fun a c => a.creationSeq.toNat ≤ c.creationSeq.toNat := by
    intro l
    induction l with
    | nil => exact fun acc h => ⟨.refl _, h⟩
    | cons o l ih =>
      intro acc h
      obtain ⟨hperm, hsorted⟩ := ih (o.insert acc) (Order.insert_sorted h)
      exact ⟨hperm.trans (((o.insert_perm acc).append_left l).trans List.perm_middle), hsorted⟩
  obtain ⟨hperm, hsorted⟩ := walk b.orders [] .nil
  exact ⟨List.append_nil b.orders ▸ hperm, hsorted⟩

theorem Order.length_summary (o : Order) : o.summary.length = 17 := by simp [Order.summary]

namespace State

/-! ### Station, line and store reports (R219) -/

theorem length_zoneEntry (s : State) (z : Zone) : (s.zoneEntry z).length = 6 := by
  simp [zoneEntry]

theorem length_wrapperEntry (s : State) (w : Wrapper) : (s.wrapperEntry w).length = 21 := by
  simp [wrapperEntry]

theorem length_laneEntry (s : State) (n : Lane) : (s.laneEntry n).length = 12 := by
  simp [laneEntry]

/-- The release hold of a lane as its code, 0 when no condition is unmet (R162; log 28). -/
theorem releaseHold_code (s : State) (n : Lane) : orZero ReleaseHold.code (s.releaseHold n) =
    match s.occupant (.gate n) with
      | none => ReleaseHold.noPallet.code
      | some m =>
        if (s.pallet m).any (·.orphaned) then ReleaseHold.stranded.code
        else if (s.lane n).state = .paused then ReleaseHold.lanePaused.code
        else if (s.lane n).truck = false then ReleaseHold.truckAbsent.code
        else if ((s.lane n).order.bind s.order).any (fun o => o.bonded && o.authority.isNone) then
          ReleaseHold.noAuthority.code
        else if s.lsv.line ≠ .running then ReleaseHold.lineNotRunning.code
        else 0 := by
  have code_ite {c : Prop} [Decidable c] (h : ReleaseHold) (o : Option ReleaseHold) :
      orZero ReleaseHold.code (if c then some h else o) = if c then h.code else orZero ReleaseHold.code o := by
    split <;> rfl
  unfold releaseHold
  cases s.occupant (.gate n) with
  | none => rfl
  | some m =>
    dsimp only
    cases s.pallet m <;> cases (s.lane n).order.bind s.order <;>
      simp only [code_ite, Option.any_none, Option.any_some, isRunning, Bool.not_eq_true', beq_eq_false_iff_ne] <;>
      rfl

/-- The prefix and the mark of the site entry; one that is not VALID presents none and 0 (log 27). -/
theorem sitePresented_bytes (s : State) :
    textBytes (s.sitePresented.sitePrefix.getD []) ++ u32 s.sitePresented.mark = match s.sdu.site with
      | .valid c _ => textBytes (c.sitePrefix.getD []) ++ u32 c.mark
      | _ => [0, 0, 0, 0, 0] := by
  unfold sitePresented
  cases s.sdu.site <;> dsimp only <;> rfl

theorem length_zonesReport (s : State) : s.zonesReport.length = 137 := by
  have hzones : ((Zone.all.map s.zoneEntry).flatten).length = 132 := by
    rw [← List.flatMap_def, length_flatMap_of fun z _ => s.length_zoneEntry z]
    rfl
  simp only [zonesReport, List.length_append, hzones, length_u8, length_u16, length_flagByte]

theorem wrappersReport_eq (s : State) : s.wrappersReport = [Wrapper.a, .b].flatMap s.wrapperEntry := by
  simp only [wrappersReport, List.flatMap_cons, List.flatMap_nil, List.append_nil]

theorem lanesReport_eq (s : State) : s.lanesReport = (List.finRange 6).flatMap s.laneEntry := by
  rw [lanesReport, ← List.flatMap_def, Lane.all_eq]

/-- The state codes of the lanes, as STATUS reports them (R198). -/
theorem laneStates_eq (s : State) : (Lane.all.map fun n => u8 (s.lane n).state.code).flatten =
    (List.finRange 6).flatMap fun n => u8 (s.lane n).state.code := by
  rw [Lane.all_eq, List.flatMap_def]

theorem length_statusReport (s : State) : s.statusReport.length = 48 + 9 * s.lku.queries.length := by
  have hlanes : ((Lane.all.map fun n => u8 (s.lane n).state.code).flatten).length = 6 := by
    rw [laneStates_eq, length_flatMap_of fun _ _ => length_u8 _]
    rfl
  have hqueries : (Machine.counted (fun q : Query => u8 q.question.kind ++ u16 q.question.key ++
      timeBytes (some q.made) ++ flagByte q.sent) s.lku.queries).length = 1 + 9 * s.lku.queries.length := by
    rw [counted_eq, List.length_append, length_flatMap_of (k := 9) (by simp), length_u8]
  unfold statusReport
  simp only [List.length_append, hlanes, hqueries, length_u8, length_u16, length_u32, length_flagByte, length_timeBytes]
  omega

end State

end Sys2Proof.Machine

namespace Sys2Proof.Machine
open State

/-! ### What the store answers to READ PROFILE and READ RECIPE (R165, R179) -/

section
variable {s : State} {product : Nat} {i : Fin 64} {p : Profile} {k : Fin 16} {r : Recipe}

theorem actReadProfile_no_slot (h : s.sdu.slotOf product = none) :
    actReadProfile product s = (s, .now .notFound []) := by
  simp only [actReadProfile, h]
  rfl

theorem actReadProfile_valid (h : s.sdu.slotOf product = some i) (he : s.sdu.profiles[i].entry = .valid p true) :
    actReadProfile product s =
      (s, .now .ok (u8 (i.val + 1) ++ p.bytes ++ wordBytes (Config.checkWord p.bytes))) := by
  simp only [actReadProfile, h, readProfileOf_valid h he]
  rfl

theorem actReadProfile_damaged (h : s.sdu.slotOf product = some i) (he : s.sdu.profiles[i].entry = .damaged) :
    actReadProfile product s = (s, .now .storeFault []) := by
  simp only [actReadProfile, h, readProfileOf_not_valid h (.inr he), he]
  rfl

theorem actReadProfile_failing (h : s.sdu.slotOf product = some i) (he : s.sdu.profiles[i].entry = .valid p false) :
    actReadProfile product s = ((s.modSdu fun d => { d with
      profiles := d.profiles.set i { d.profiles[i] with entry := .damaged } }).notify
        (.store .damaged (.profile i) s.sdu.profiles[i].key none 0 0), .now .storeFault []) := by
  simp only [actReadProfile, h, readProfileOf_failing h he]
  rfl

theorem actReadRecipe_valid (he : s.sdu.recipes[k] = .valid r true) : actReadRecipe k s =
    (s, .now .ok (u8 (k.val + 1) ++ r.bytes ++ wordBytes (Config.checkWord r.bytes))) := by
  simp only [actReadRecipe, readRecipeEntry, he, readEntry_valid]
  rfl

theorem actReadRecipe_empty {holds : Bool} (he : s.sdu.recipes[k] = .empty holds) :
    actReadRecipe k s = (s, .now .notFound []) := by
  simp only [actReadRecipe, readRecipeEntry, he]
  rfl

theorem actReadRecipe_damaged (he : s.sdu.recipes[k] = .damaged) :
    actReadRecipe k s = (s, .now .storeFault []) := by
  simp only [actReadRecipe, readRecipeEntry, he]
  rfl

theorem actReadRecipe_failing (he : s.sdu.recipes[k] = .valid r false) : actReadRecipe k s =
    ((s.modSdu fun d => { d with recipes := d.recipes.set k .damaged }).notify
      (.store .damaged (.recipe k) none none 0 0), .now .storeFault []) := by
  simp only [actReadRecipe, readRecipeEntry, he, readEntry_failing, damageAtRead_recipe]
  rfl

end

/-! ### The fields of the store and of the queries (R180, R198) -/

theorem ReservationSlot.code_eq (r : ReservationSlot) :
    r.code = match r with | .empty => 0 | .waiting => 1 | .inFlight _ => 2 := by
  cases r <;> rfl

/-- The kind and the key of a question. -/
theorem Question.fields_eq (q : Question) : u8 q.kind ++ u16 q.key = match q with
    | .holdDecision track _ _ => u8 1 ++ u16 track.number
    | .profileWanted product _ => u8 2 ++ u16 product := by
  cases q <;> rfl

theorem Order.length_report (o : Order) : o.report.length =
    20 + 7 * o.lines.length + o.destination.length + (o.authority.getD []).length := by
  simp only [Order.report, counted_eq, List.length_append, length_u8, length_u32, length_flagByte, length_textBytes]
  rw [length_flatMap_of (k := 7) (by simp)]
  omega

/-- Settles O17: the answer of each request, then each report byte by byte, then the codes. -/
theorem observeRequestsReport : Obligations.ObserveRequestsReport := by
  unfold Obligations.ObserveRequestsReport
  refine ⟨fun s tag h => ?reports, fun s tag h => ?records, fun s tag h => ?store, fun s n p => ?pallet,
    fun s => ?track, fun o => ?order, fun e => ?dispatch, fun b => ?book, fun s => ?zones, fun s => ?wrappers,
    fun s => ?lanes, fun s => ?settings, fun v => rfl, fun t => rfl, rfl, rfl, rfl, rfl, rfl, rfl, rfl, rfl, rfl, rfl,
    rfl, rfl, rfl, rfl, rfl, rfl, rfl, rfl, rfl, rfl, rfl, rfl, rfl, rfl, rfl⟩
  case reports =>
    obtain ⟨h1, h2, h3, h4, h5, h6⟩ := observe_reports s tag h
    refine ⟨h1, h2, h3, h4, h5, h6, (exec_readSettings h).trans ?_⟩
    exact congrArg (fun r : State => Host.Outcome.next (r.replied tag 0x0C .ok r.settingsReport)) (readSettings_state s)
  case records =>
    exact ⟨fun n => exec_readPallet h n, fun b hb => exec_readPallet_out_of_range h hb,
      fun number h1 h2 => exec_readOrder h h1 h2, fun number hb hw => exec_readOrder_out_of_range h hb hw,
      fun number start h1 h2 h3 h4 => exec_readDispatchList h h1 h2 h3 h4,
      fun number start hn hs hb => exec_readDispatchList_out_of_range h hn hs hb⟩
  case store =>
    exact ⟨fun product i p h1 h2 hs => ⟨fun he => exec_readProfile h h1 h2 (actReadProfile_valid hs he),
        fun he => exec_readProfile h h1 h2 (actReadProfile_damaged hs he),
        fun he => exec_readProfile h h1 h2 (actReadProfile_failing hs he)⟩,
      fun product h1 h2 hs => exec_readProfile h h1 h2 (actReadProfile_no_slot hs),
      fun i r => ⟨fun he => exec_readRecipe h (actReadRecipe_valid he),
        fun ⟨_, he⟩ => exec_readRecipe h (actReadRecipe_empty he),
        fun he => exec_readRecipe h (actReadRecipe_damaged he),
        fun he => exec_readRecipe h (actReadRecipe_failing he)⟩⟩
  case pallet =>
    refine ⟨?_, s.length_palletReport n p⟩
    unfold palletReport
    rw [pallet_marks, reasonBytes_eq, assignmentBytes, ← List.append_assoc, ← List.append_assoc]
    simp only [orZero_eq, Option.map_id_fun, id_eq, weightBytes] <;> rfl
  case track =>
    intro held
    have hheld : s.tracks = held := s.tracks_eq
    refine ⟨?_, hheld ▸ s.length_trackSummary⟩
    rw [trackSummary_eq, hheld]
    refine congrArg _ (congrArg (List.flatMap · held) (funext fun n => ?_))
    cases hp : s.pallet n with
    | none => simp only [summaryEntry, hp]
    | some p => exact summaryEntry_of hp
  case order => exact ⟨by simp only [Order.report, counted_eq, orZero_eq, List.append_assoc], o.length_report⟩
  case dispatch => exact ⟨rfl, by simp [DispatchEntry.bytes, weightBytes]; omega⟩
  case book =>
    obtain ⟨hperm, hsorted⟩ := b.ascending_spec
    refine ⟨?_, b.ascending, hperm, hsorted, ?_⟩
    · rw [Book.report, ← List.flatMap_def, List.length_append, length_flatMap_of fun o _ => o.length_summary,
        hperm.length_eq]
      rfl
    · rw [Book.report, ← List.flatMap_def]
      refine congrArg _ (congrArg (List.flatMap · b.ascending) (funext fun o => ?_))
      simp only [Order.summary, orZero_eq, Order.sum]
  case zones =>
    refine ⟨?_, s.length_zonesReport⟩
    rw [zonesReport, ← List.flatMap_def, orZero_eq]
    refine congrArg (· ++ _ ++ _ ++ _ ++ _) (congrArg (List.flatMap · Zone.all) (funext fun z => ?_))
    simp only [zoneEntry, orZero_eq]
  case wrappers =>
    rw [wrappersReport_eq]
    refine ⟨length_flatMap_of fun w _ => s.length_wrapperEntry w, congrArg (List.flatMap · _) (funext fun w => ?_)⟩
    unfold wrapperEntry
    dsimp only
    cases (s.wrapper w).load with
    | none => simp only [orZero_eq, Option.map_none, Option.getD_none, Option.bind_none]
    | untracked => simp only [orZero_eq, Option.map_none, Option.getD_none, Option.bind_none]
    | track n =>
      dsimp only
      cases s.pallet n with
      | none => simp only [orZero_eq, Option.map_none, Option.getD_none, Option.bind_none, mark]
      | some p =>
        simp only [orZero_eq, Option.map_some, Option.getD_some, Option.bind_some, mark]
        cases p.plan <;>
          simp only [Option.map_some, Option.map_none, Option.getD_some, Option.getD_none, Recipe.passes]
  case lanes =>
    rw [lanesReport_eq]
    refine ⟨length_flatMap_of fun n _ => s.length_laneEntry n, congrArg (List.flatMap · _) (funext fun n => ?_)⟩
    rw [laneEntry, releaseHold_code]
    simp only [orZero_eq, Option.map_id_fun, id_eq] <;> rfl
  case settings =>
    intro slot
    have hslot (h : HostSlot) : slot h = (h.code, (h.job.map (·.number)).getD 0, (h.job.map (·.kind.toNat)).getD 0) := by
      cases h <;> rfl
    refine ⟨?_, ?_, s.length_statusReport⟩
    · rw [settingsReport, List.append_assoc _ (textBytes _) (u32 _), sitePresented_bytes, Slot.all_eq, Recipe.all_eq,
        ← List.flatMap_def, ← List.flatMap_def]
      simp only [orZero_eq, hslot, ReservationSlot.code_eq]
      cases s.sdu.timing <;> rfl
    · unfold statusReport
      simp only [orZero_eq, hslot, laneStates_eq, Question.fields_eq, counted_eq, recordCount, tracks_eq, mark, ReservationSlot.code_eq,
        ← List.append_assoc] <;> rfl

end Sys2Proof.Machine

namespace Sys2Proof.Machine

namespace State

/-! ### Weight capture (R52, R53) -/

/-- A reading is taken while weight capture is ARMED, when it is stable and in range (R52). -/
theorem takeWeight_eq (weight : Int) (stable : Bool) (s : State) : s.takeWeight weight stable =
    if s.cku.weight = .armed ∧ stable = true ∧ 0 ≤ weight ∧ weight ≤ 30000 then
      ((match s.cku.track with
        | some n => s.modPallet n fun p => { p with gross := some weight.toNat }
        | none => s).modCku fun c => { c with weight := .taken, weightTimer := .stopped }).tryVerdict
    else s := rfl

theorem takeWeight_not_armed {s : State} (h : s.cku.weight ≠ .armed) (weight : Int) (stable : Bool) :
    s.takeWeight weight stable = s := if_neg fun hc => h hc.1

end State
open State

/-- A weight reading taken. -/
theorem exec_weightReading {s : State} (h : s.inReset = false) (ht : s.taking = true) (weight : Int) (stable : Bool) :
    exec (.weightReading weight stable) s = .next (s.takeWeight weight stable).settle.pump :=
  congrArg Host.Outcome.next (arrival_of _ h ht)

/-- Settles O44: by the test of R52 in `takeWeight`. -/
theorem weightIsTaken : Obligations.WeightIsTaken := by
  intro s weight stable h ht
  rw [exec_weightReading h ht]
  exact congrArg Host.Outcome.next (apply_ite (fun t => (State.settle t).pump) _ _ s)

end Sys2Proof.Machine

namespace Sys2Proof.Machine

namespace State

section
variable {s : State} {n : TrackNo} {p : Pallet} {f : Profile}

theorem checkReason_of (ht : s.cku.track = some n) (r : Reason) : s.checkReason r = s.addReasonTo n r := by
  simp only [checkReason, ht]

/-- The profile result that the counts of the open frame make (R58). -/
def frameResult (f : Profile) (s : State) : ProfileResult :=
  ⟨s.cku.counts.overs, s.cku.counts.unders, s.cku.counts.invalid, s.cku.counts.highest, s.cku.frameInhibit.any,
    s.isPart f⟩

theorem writeResult_of (ht : s.cku.track = some n) (f : Profile) :
    s.writeResult f = s.modPallet n fun p => { p with profile := some (s.frameResult f) } := by
  simp only [writeResult, ht]
  rfl

/-! ### A frame begin (R54, R55) -/

/-- Frame capture open, with nothing counted (R54). -/
def frameOpened (s : State) : State :=
  s.modCku fun c => { c with frame := .isOpen, frameInhibit := c.headInhibit, rows := 0, counts := ⟨0, 0, 0, 0⟩ }

theorem openFrame_no_tag (ht : s.cku.track = some n) (h : s.pallet n = some p) (hg : p.tag = none) :
    s.openFrame = s.frameOpened.closeFrame.tryVerdict := by
  have htag : (s.frameOpened.cku.track.bind s.frameOpened.pallet).bind (·.tag) = none := by
    simp [frameOpened, ht, h, hg]
  simp only [frameOpened] at htag
  simp only [openFrame, frameOpened, Counts.zero, htag]

/-- What the profile of the record's product reads as decides a frame that has opened (R55). -/
def profileTaken (n : TrackNo) (e : Entry Profile) (u : State) : State :=
  match e with
  | .valid f _ => u.modCku fun c => { c with snapshot := some f, recipe := some f.recipe }
  | .empty _ => (u.addReasonTo n .noProfile).closeFrame.tryVerdict
  | .damaged => (u.addReasonTo n .referenceDamaged).closeFrame.tryVerdict

theorem openFrame_tagged {g : Tag} {e : Entry Profile} {u : State} (ht : s.cku.track = some n)
    (h : s.pallet n = some p) (hg : p.tag = some g) (hr : s.frameOpened.readProfileOf g.product = (e, u)) :
    s.openFrame = u.profileTaken n e := by
  have htag : (s.frameOpened.cku.track.bind s.frameOpened.pallet).bind (·.tag) = some g := by
    simp [frameOpened, ht, h, hg]
  have hu : u.cku.track = some n := (congrArg CheckUnit.track (readProfileOf_cku hr)).trans ht
  simp only [frameOpened] at htag hr
  simp only [openFrame, Counts.zero, htag, hr]
  cases e <;> simp only [checkReason_of hu, profileTaken]

theorem beginFrame_armed (h : s.cku.frame = .armed) : s.beginFrame = s.openFrame := by
  simp only [beginFrame, h]

/-- A frame begin ends a frame that is OPEN (R54; log 21). -/
theorem beginFrame_open (h : s.cku.frame = .isOpen) (ht : s.cku.track = some n) (hs : s.cku.snapshot = some f) :
    s.beginFrame = (((s.modPallet n fun p => { p with profile := some (s.frameResult f) }).addReasonTo n
      .scanShort).closeFrame).tryVerdict := by
  have ht' : (s.modPallet n fun p => { p with profile := some (s.frameResult f) }).cku.track = some n := by simp [ht]
  simp only [beginFrame, h, hs, writeResult_of ht, checkReason_of ht']

theorem beginFrame_stray (h : s.cku.frame = .ended ∨ s.cku.frame = .timedOut ∨ s.cku.frame = .off) :
    s.beginFrame = s.notify (.station .strayFrame .scanner none none none none 0) := by
  rcases h with h | h | h <;> simp only [beginFrame, h]

end

end State
open State

/-- A frame begin taken. -/
theorem exec_frameBegin {s t : State} (h : s.inReset = false) (ht : s.taking = true) (hb : s.beginFrame = t) :
    exec .frameBegin s = .next t.settle.pump := by
  subst hb
  exact congrArg Host.Outcome.next (arrival_of _ h ht)

/-- Settles O45: by the state of frame capture, and while ARMED by what the profile reads as. -/
theorem frameBegins : Obligations.FrameBegins := by
  intro s h ht opened closed
  refine ⟨fun n p hf hn hp => ?_, fun n f hf hn hs => exec_frameBegin h ht (beginFrame_open hf hn hs),
    fun hf => exec_frameBegin h ht (beginFrame_stray hf)⟩
  have armed {t : State} (ho : s.openFrame = t) : exec .frameBegin s = .next t.settle.pump :=
    exec_frameBegin h ht ((beginFrame_armed hf).trans ho)
  refine ⟨fun hg => armed (openFrame_no_tag hn hp hg), fun g hg => ?_⟩
  have read {e : Entry Profile} {u t : State} (hr : s.frameOpened.readProfileOf g.product = (e, u))
      (htaken : u.profileTaken n e = t) : exec .frameBegin s = .next t.settle.pump :=
    armed ((openFrame_tagged hn hp hg hr).trans htaken)
  refine ⟨fun hs => read (readProfileOf_no_slot hs) rfl, fun i hs => ⟨fun f he => read (readProfileOf_valid hs he) rfl,
    fun he => read (readProfileOf_not_valid hs (.inr he)) ?_, fun f he => read (readProfileOf_failing hs he) rfl⟩⟩
  exact congrArg (s.frameOpened.profileTaken n) he

end Sys2Proof.Machine

namespace Sys2Proof.Machine

/-! ### The rows of a frame (R56, R57) -/

/-- One cell counted, by the table of R57. -/
theorem Counts.cell_eq (f : Profile) (part : Bool) (reference : Option Nat) (value : Nat) (c : Counts) :
    c.cell f part reference value =
      { overs := c.overs + (match reference with
          | some h => if value ≤ 2500 ∧ h + f.overTolerance < value then 1 else 0
          | none => 0)
        unders := c.unders + (match reference with
          | some h => if value ≤ 2500 ∧ ¬ h + f.overTolerance < value ∧ value + f.underTolerance < h ∧ part = false
            then 1 else 0
          | none => 0)
        invalid := c.invalid + if 2500 < value ∧ reference.isSome = true then 1 else 0
        highest := if value ≤ 2500 then max c.highest value else c.highest } := by
  cases reference with
  | none => by_cases hv : value ≤ 2500 <;> simp [cell, Config.highestCell, hv, Nat.not_lt.mpr, Nat.lt_of_not_le]
  | some h =>
    by_cases hv : value ≤ 2500
    · by_cases ho : h + f.overTolerance < value
      · simp [cell, Config.highestCell, hv, ho, Nat.not_lt.mpr]
      · by_cases hu : value + f.underTolerance < h ∧ part = false <;>
          simp [cell, Config.highestCell, hv, ho, hu, Nat.not_lt.mpr]
    · simp [cell, Config.highestCell, hv, Nat.lt_of_not_le]

/-- A row counted: its cells in order, each with its column, those of the inhibited heads left out (R56). -/
theorem Counts.row_eq (f : Profile) (part : Bool) (inhibit : Heads) (r column : Nat) (cells : List Word16) (c : Counts) :
    Counts.row f part inhibit r column cells c = (cells.zipIdx column).foldl (fun k v =>
      if inhibit.inhibits v.2 then k else k.cell f part (f.reference r v.2) v.1.toNat) c := by
  induction cells generalizing column c with
  | nil => rfl
  | cons v rest ih => rw [Counts.row, ih]; rfl

namespace State
section
variable {s : State} {n : TrackNo} {p : Pallet} {f : Profile}

theorem takeRow_closed (h : s.cku.frame ≠ .isOpen) (row : Nat) (cells : List Word16) : s.takeRow row cells = s := by
  unfold takeRow
  split
  · contradiction
  · rfl

theorem takeRow_open (h : s.cku.frame = .isOpen) (hs : s.cku.snapshot = some f) (row : Nat) (cells : List Word16) :
    s.takeRow row cells = if row = s.cku.rows ∧ row < 48 then s.modCku fun c => { c with
      rows := c.rows + 1, counts := c.counts.row f (s.isPart f) c.frameInhibit row 0 cells } else s.endFrame true := by
  simp only [takeRow, h, hs]
  rfl

/-! ### The end of a frame (R58, R59) -/

theorem endFrame_closed (h : s.cku.frame ≠ .isOpen) (rowFault : Bool) : s.endFrame rowFault = s := by
  unfold endFrame
  split
  · contradiction
  · rfl

/-- The record of the check track after the frame tests of R58. -/
def frameTested (n : TrackNo) (f : Profile) (rowFault : Bool) (s : State) : State :=
  let written := s.modPallet n fun p => { p with profile := some (s.frameResult f) }
  let faulted := if 32 < s.cku.counts.invalid ∨ rowFault = true then written.addReasonTo n .scanFault else written
  if s.cku.rows < f.windowStart + 20 then faulted.addReasonTo n .scanShort else faulted

theorem endFrame_open (h : s.cku.frame = .isOpen) (ht : s.cku.track = some n) (hs : s.cku.snapshot = some f)
    (rowFault : Bool) : s.endFrame rowFault = (s.frameTested n f rowFault).closeFrame.tryVerdict := by
  have tested : (s.writeResult f).addReasons n (frameReasons f s.cku.counts s.cku.rows rowFault) =
      s.frameTested n f rowFault := by
    rw [writeResult_of ht]
    by_cases hf : 32 < s.cku.counts.invalid ∨ rowFault = true <;>
      by_cases hr : s.cku.rows < f.windowStart + 20 <;>
        simp [frameTested, frameReasons, Config.invalidLimit, Config.windowRows, addReasons, hf, hr]
  simp only [endFrame, h, hs, ht, tested]

theorem scanTimeout_armed (h : s.cku.frame = .armed) (ht : s.cku.track = some n)
    (hr : s.cku.scanTimer.isRunning = true) : s.scanTimeout =
      ((s.addReasonTo n .noScan).modCku fun c => { c with frame := .timedOut, scanTimer := .stopped }).tryVerdict := by
  simp only [scanTimeout, hr, h, checkReason_of ht, if_true]

theorem scanTimeout_open (h : s.cku.frame = .isOpen) (hr : s.cku.scanTimer.isRunning = true) :
    s.scanTimeout = s.endFrame false := by
  simp only [scanTimeout, hr, h, if_true]

end

end State
open State

/-- A row taken. -/
theorem exec_scanRow {s t : State} {row : Nat} {cells : List Word16} (h : s.inReset = false) (ht : s.taking = true)
    (hr : s.takeRow row cells = t) : exec (.scanRow row cells) s = .next t.settle.pump := by
  subst hr
  exact congrArg Host.Outcome.next (arrival_of _ h ht)

/-- Settles O46: the cell by `Counts.cell_eq`, the row by `Counts.row_eq`. -/
theorem rowsAreCounted : Obligations.RowsAreCounted := by
  refine ⟨fun f part reference value c => ?_, fun s row cells h ht => ⟨fun hf => ?_, fun n f hf hs hn => ⟨fun hr hlt => ?_,
    fun hbad => ?_⟩⟩⟩
  · exact Counts.cell_eq f part reference value c
  · exact exec_scanRow h ht (takeRow_closed hf row cells)
  · refine exec_scanRow h ht ((takeRow_open hf hs row cells).trans ((if_pos ⟨hr, hlt⟩).trans ?_))
    congr 1
    funext c
    rw [Counts.row_eq]
    simp only [Heads.inhibits, Profile.reference, Profile.windowRow, Bool.and_eq_true, decide_eq_true_eq]
  · refine exec_scanRow h ht ((takeRow_open hf hs row cells).trans (if_neg ?_))
    omega

/-- Settles O47: by the rules for `endFrame` and `scanTimeout`. -/
theorem frameEnds : Obligations.FrameEnds := by
  intro s h ht
  have ended {t : State} (he : s.endFrame false = t) : exec .frameEnd s = .next t.settle.pump := by
    subst he
    exact congrArg Host.Outcome.next (arrival_of _ h ht)
  have expired {t : State} (he : s.scanTimeout = t) : exec .scanTimerExpiry s = .next t.settle.pump := by
    subst he
    exact congrArg Host.Outcome.next (event_of _ h)
  refine ⟨fun hf => ended (endFrame_closed hf false), fun n hf hn hr => expired (scanTimeout_armed hf hn hr),
    fun n f hf hs hn => ?_⟩
  exact ⟨endFrame_open hf hn hs true, ended (endFrame_open hf hn hs false),
    fun hr => expired ((scanTimeout_open hf hr).trans (endFrame_open hf hn hs false))⟩

end Sys2Proof.Machine

namespace Sys2Proof.Machine

namespace State

/-! ### What a verdict leaves (R60) -/

/-- The end of waiting for profiles leaves the check but for its waiters. -/
theorem stopWaiting_cku (n : TrackNo) (s : State) :
    ∃ waiters, (s.stopWaiting n).cku = { s.cku with waiters := waiters } := by
  have all : ∀ (l : List Waiters) (u : State), ∃ waiters,
      (l.foldl (fun s w => s.withdrawProfile w.product) u).cku = { u.cku with waiters := waiters } := by
    intro l
    induction l with
    | nil => exact fun u => ⟨_, rfl⟩
    | cons w l ih => exact fun u => ih (u.withdrawProfile w.product)
  exact all _ _

/-- The end of a verdict leaves the check but for its state and its waiters. -/
theorem concluded_cku (n : TrackNo) (rs : List Reason) (u : State) :
    ∃ waiters, (u.concluded n rs).cku = { u.cku with state := .done, waiters := waiters } := by
  rw [concluded_eq]
  obtain ⟨waiters, hw⟩ := stopWaiting_cku n ((match (u.addReasons n rs).pallet n with
      | some p => if p.reasons.isEmpty then (u.addReasons n rs).acceptOrNoDemand n (u.addReasons n rs).cku.recipe
        else u.addReasons n rs
      | none => u.addReasons n rs).modCku fun c => { c with state := .done })
  refine ⟨waiters, hw.trans ?_⟩
  cases (u.addReasons n rs).pallet n with
  | none => simp
  | some p => simp [apply_ite State.cku]

section
variable {n : TrackNo} {p : Pallet} {s : State}

/-- The profile used at a verdict is read; the check's recipe becomes that of one read after NO_SCAN (R62). -/
theorem verdictProfile_keeps (g : Tag) (s : State) : (s.verdictProfile g).2.trt = s.trt ∧
    (s.verdictProfile g).2.lbu = s.lbu ∧ ∃ recipe, (s.verdictProfile g).2.cku = { s.cku with recipe := recipe } := by
  refine ⟨by simp, ?_⟩
  by_cases hf : s.cku.frame = .timedOut
  · have hl := readProfileOf_lbu g.product s
    cases hr : s.readProfileOf g.product with
    | mk e u =>
      rw [hr] at hl
      have hc := readProfileOf_cku hr
      cases e with
      | valid f holds => rw [verdictProfile_valid hf hr]; exact ⟨hl, some f.recipe, by rw [modCku_cku, hc]⟩
      | empty holds => rw [verdictProfile_missing hf hr (.inl ⟨holds, rfl⟩)]; exact ⟨hl, _, hc⟩
      | damaged => rw [verdictProfile_missing hf hr (.inr rfl)]; exact ⟨hl, _, hc⟩
  · have hv : s.verdictProfile g = (s.cku.snapshot, s) := if_neg hf
    rw [hv]
    exact ⟨rfl, _, rfl⟩

/-- A verdict is the conclusion, with some reasons, of a state that holds the record as it is counted. -/
theorem verdict_concludes (ht : s.cku.track = some n) (h : s.pallet n = some p) :
    ∃ (u : State) (rs : List Reason) (recipe : Option Nat), s.verdict = u.concluded n rs ∧
      u.trt = (s.counted n p).trt ∧ u.lbu = s.lbu ∧ u.cku = { s.cku with recipe := recipe } := by
  rw [verdict_of ht h]
  cases p.tag with
  | none => exact ⟨_, _, _, rfl, rfl, rfl, rfl⟩
  | some g =>
    obtain ⟨htrt, hlbu, recipe, hcku⟩ := verdictProfile_keeps g (s.counted n p)
    exact ⟨_, _, recipe, rfl, htrt, hlbu, hcku⟩

/-- Where the verdict is tried, the captures stay as they are, and of the records the check track's alone is written: it
keeps its gross weight and its reasons. -/
theorem tryVerdict_keeps (ht : s.cku.track = some n) (h : s.pallet n = some p) :
    s.tryVerdict.lbu = s.lbu ∧ s.tryVerdict.cku.weight = s.cku.weight ∧
    s.tryVerdict.cku.weightTimer = s.cku.weightTimer ∧ (∀ m, m ≠ n → s.tryVerdict.pallet m = s.pallet m) ∧
    ∃ q, s.tryVerdict.pallet n = some q ∧ q.gross = p.gross ∧ ∀ r ∈ p.reasons, r ∈ q.reasons := by
  by_cases hin : s.cku.state = .capturing ∧ WeightCapture.isIn s.cku.weight = true ∧
      FrameCapture.isIn s.cku.frame = true
  · obtain ⟨u, rs, recipe, hu, htrt, hlbu, hcku⟩ := verdict_concludes ht h
    have hv : s.tryVerdict = u.concluded n rs := (if_pos hin).trans hu
    obtain ⟨waiters, hw⟩ := concluded_cku n rs u
    have hp : u.pallet n = some (s.countedPallet p) := (pallet_congr htrt n).trans (counted_pallet n p s)
    obtain ⟨_, hlbu', q, written, same, hq⟩ := concluded_writes hp rs
    rw [hv]
    refine ⟨hlbu'.trans hlbu, by rw [hw, hcku], by rw [hw, hcku], fun m hm => ?_, q, written.same, same.gross,
      fun r hr => ?_⟩
    · rw [written.other hm, pallet_congr htrt m]
      exact (pallet_putPallet n m _ _).trans (if_neg hm)
    · have hmem : r ∈ addAll rs p.reasons := mem_addAll.mpr (.inr hr)
      rcases hq with hq | ⟨he, _⟩
      · rw [hq]; exact hmem
      · exact absurd he (List.ne_nil_of_mem hmem)
  · have hv : s.tryVerdict = s := if_neg hin
    rw [hv]
    exact ⟨rfl, rfl, rfl, fun _ _ => rfl, p, h, rfl, fun _ hr => hr⟩

/-! ### The weight timer (R53) -/

theorem weightTimeout_armed (ht : s.cku.track = some n) (ha : s.cku.weight = .armed)
    (hr : s.cku.weightTimer.isRunning = true) : s.weightTimeout = ((s.addReasonTo n .noWeight).modCku fun c => { c with
      weight := .timedOut, weightTimer := .stopped }).tryVerdict := by
  simp [weightTimeout, ha, hr, checkReason_of ht]

theorem weightTimeout_stopped (h : s.cku.weightTimer = .stopped) : s.weightTimeout = s := by
  simp [weightTimeout, h, Timer.isRunning]

theorem takeWeight_armed (ht : s.cku.track = some n) (ha : s.cku.weight = .armed) {weight : Nat} (hw : weight ≤ 30000) :
    s.takeWeight weight true = ((s.modPallet n fun p => { p with gross := some weight }).modCku fun c => { c with
      weight := .taken, weightTimer := .stopped }).tryVerdict := by
  have hin : s.cku.weight = .armed ∧ true = true ∧ (0 : Int) ≤ weight ∧ (weight : Int) ≤ 30000 :=
    ⟨ha, rfl, by omega, by omega⟩
  rw [takeWeight_eq, if_pos hin]
  simp only [ht, Int.toNat_natCast]

end

/-! ### The end of an event in which the verdict was tried -/

/-- The end of an event leaves the captures and the records. -/
theorem settled_keeps (s : State) : s.settle.pump.inReset = s.inReset ∧ s.settle.pump.taking = s.taking ∧
    s.settle.pump.cku = s.cku ∧ ∀ n, s.settle.pump.pallet n = s.pallet n :=
  ⟨by simp [inReset], by simp [taking], by simp, fun n => pallet_congr (by simp) n⟩

/-- From `s` to `t` the verdict was tried on the check track, whose record stood as `p`, and the event ended. -/
structure CheckTried (n : TrackNo) (p : Pallet) (s t : State) : Prop where
  inReset : t.inReset = s.inReset
  taking : t.taking = s.taking
  lbu : t.lbu = s.lbu
  weight : t.cku.weight = s.cku.weight
  weightTimer : t.cku.weightTimer = s.cku.weightTimer
  other : ∀ m, m ≠ n → t.pallet m = s.pallet m
  record : ∃ q, t.pallet n = some q ∧ q.gross = p.gross ∧ ∀ r ∈ p.reasons, r ∈ q.reasons

theorem checkTried {s : State} {n : TrackNo} {p : Pallet} (ht : s.cku.track = some n) (h : s.pallet n = some p) :
    CheckTried n p s s.tryVerdict.settle.pump := by
  obtain ⟨hlbu, hweight, htimer, hother, q, hq, hkept⟩ := tryVerdict_keeps ht h
  obtain ⟨kreset, ktaking, kcku, kpallet⟩ := settled_keeps s.tryVerdict
  exact {
    inReset := kreset.trans (by simp [State.inReset])
    taking := ktaking.trans (by simp [State.taking])
    lbu := by simpa using hlbu
    weight := by rw [kcku, hweight]
    weightTimer := by rw [kcku, htimer]
    other := fun m hm => (kpallet m).trans (hother m hm)
    record := ⟨q, (kpallet n).trans hq, hkept⟩ }

end State
open State

theorem exec_weightTimerExpiry {s : State} (h : s.inReset = false) :
    exec .weightTimerExpiry s = .next s.weightTimeout.settle.pump :=
  congrArg Host.Outcome.next (event_of _ h)

/-- Settles O43: the expiry and a reading each leave weight capture so that the other is discarded after it. -/
theorem weightTimesOut : Obligations.WeightTimesOut := by
  intro s n p h ht hn hp ha
  refine ⟨fun hr => ?_, fun hstop => ?_, fun weight hw => ?_⟩
  · let u := (s.addReasonTo n .noWeight).modCku fun c => { c with weight := .timedOut, weightTimer := .stopped }
    have hu : u.pallet n = some { p with reasons := addReason .noWeight p.reasons } :=
      (pallet_addReasonTo hp .noWeight n).trans (if_pos rfl)
    have tried : CheckTried n _ u u.tryVerdict.settle.pump := checkTried (by simp [u, hn]) hu
    have hreset : u.inReset = false := by simpa [inReset, u] using h
    have htaking : u.taking = true := by simpa [taking, u] using ht
    obtain ⟨q, hq, hgross, hreasons⟩ := tried.record
    refine ⟨u.tryVerdict.settle.pump, q, ?_, hq, hreasons _ (mem_addReason.mpr (.inl rfl)), hgross, tried.weight,
      tried.weightTimer, fun m hm => ?_, fun b hb => ?_, fun weight stable => ⟨_, q,
        exec_weightReading (tried.inReset.trans hreset) (tried.taking.trans htaking) weight stable, ?_, hgross, rfl⟩⟩
    · rw [exec_weightTimerExpiry h, weightTimeout_armed hn ha hr]
    · rw [tried.other m hm]
      exact (pallet_addReasonTo hp .noWeight m).trans (if_neg hm)
    · have hlbu := tried.lbu
      cases b <;> simp [Block.same, u] at hb hlbu ⊢
      case label => exact hlbu
    · have hout : u.tryVerdict.settle.pump.cku.weight ≠ .armed := by rw [tried.weight]; simp [u]
      obtain ⟨-, -, -, kept⟩ := settled_keeps u.tryVerdict.settle.pump
      rw [takeWeight_not_armed hout, kept, hq]
  · rw [exec_weightTimerExpiry h, weightTimeout_stopped hstop]
  · let u := (s.modPallet n fun p => { p with gross := some weight }).modCku fun c => { c with
      weight := .taken, weightTimer := .stopped }
    have hu : u.pallet n = some { p with gross := some weight } := by simp [u, hp]
    have tried : CheckTried n _ u u.tryVerdict.settle.pump := checkTried (by simp [u, hn]) hu
    have hreset : u.inReset = false := by simpa [inReset, u] using h
    obtain ⟨q, hq, hgross, -⟩ := tried.record
    refine ⟨u.tryVerdict.settle.pump, q, ?_, hq, hgross, tried.weight, tried.weightTimer, _, q,
      exec_weightTimerExpiry (tried.inReset.trans hreset), ?_, rfl⟩
    · rw [exec_weightReading h ht, takeWeight_armed hn ha hw]
    · obtain ⟨-, -, -, kept⟩ := settled_keeps u.tryVerdict.settle.pump
      rw [weightTimeout_stopped tried.weightTimer, kept, hq]

end Sys2Proof.Machine

namespace Sys2Proof.Machine

/-! ### The operands of DECIDE HOLD, INHIBIT HEADS and SET CLOCK (R67, R75, R207) -/

/-- The decision that the second byte of DECIDE HOLD names. -/
def Decision.ofCode (d : Nat) : Decision := if d = 1 then .override else .divert

theorem argDecide_u8 (n : TrackNo) {d : Nat} (h : d = 1 ∨ d = 2) :
    argDecide (u8 n.number ++ u8 d) = .ok (n, Decision.ofCode d) := by
  rcases h with rfl | rfl <;> simp [argDecide, structured, named, bind, Except.bind, rdU8, u8, Decision.ofCode]

theorem argClock_u32 {value : Nat} (h : value < 4294967296) : argClock (u32 value) = .ok value := by
  have hr := rdU32_u32 value []
  rw [List.append_nil, Nat.mod_eq_of_lt h] at hr
  simp [argClock, structured, hr]

theorem firstBad_heads {heads : List Nat} (h : ∀ k ∈ heads, 1 ≤ k ∧ k ≤ 4) : firstBad (heads.map (range 1 4)) = none := by
  induction heads with
  | nil => rfl
  | cons k rest ih =>
    obtain ⟨h1, h4⟩ := h k (List.mem_cons_self ..)
    rw [List.map_cons, range_good h1 h4, firstBad_cons, if_pos rfl]
    exact ih fun j hj => h j (List.mem_cons_of_mem k hj)

theorem argHeads_counted {heads : List Nat} (hl : heads.length ≤ 4) (h : ∀ k ∈ heads, 1 ≤ k ∧ k ≤ 4) :
    argHeads (counted u8 heads) =
      .ok ⟨decide (1 ∈ heads), decide (2 ∈ heads), decide (3 ∈ heads), decide (4 ∈ heads)⟩ := by
  have hc := rdU8_u8 heads.length (heads.map u8).flatten
  rw [Nat.mod_eq_of_lt (by omega)] at hc
  have hh := rdU8s_flatten heads (fun k hk => by have := h k hk; omega) []
  rw [List.append_nil] at hh
  simp [argHeads, structured, counted, hc, hh, bind, Except.bind, checkedBy, firstBad_cons, hl, firstBad_heads h]

namespace State
section
variable {s : State} {n : TrackNo} {p : Pallet}

/-! ### The hold (R67 to R71) -/

/-- The hold of a record ended (R68 to R71). -/
theorem endHold_eq (n : TrackNo) (s : State) : s.endHold n = (s.modLku fun l => { l with
      queries := l.queries.filter fun q => !(q.question.isHoldOf n) }).modCku fun c => { c with
    holdTimer := .stopped, holdTrack := none,
    holdEnded := if n ∈ c.holdEnded then c.holdEnded else c.holdEnded ++ [n] } := by
  simp [endHold, withdraw]

theorem overrideHold_of_ended {ended : State} (h : s.endHold n = ended) : s.overrideHold n =
    match (ended.modPallet n fun p => { p with reasons := [] }).allocate n with
      | some u => (u.copyPlan n u.cku.holdRecipe).enter n .accepted .accepted
      | none => (ended.modPallet n fun p => { p with reasons := [] }).reject n (some .noDemand) := by
  subst h
  rfl

theorem holdTimeout_held (ht : s.cku.holdTrack = some n) (hr : s.cku.holdTimer.isRunning = true)
    (hs : s.palletState n = some .held) : s.holdTimeout = s.divertHold n := by
  simp [holdTimeout, ht, hr, hs]

theorem holdTimeout_stopped (h : s.cku.holdTimer = .stopped) : s.holdTimeout = s := by
  unfold holdTimeout
  cases s.cku.holdTrack with
  | none => rfl
  | some n => simp [h, Timer.isRunning]

theorem actDecideHold_held (h : s.pallet n = some p) (hs : p.state = .held) (d : Decision) :
    actDecideHold (n, d) s = ((match d with
      | .override => s.overrideHold n
      | .divert => s.divertHold n).settle, .now .ok []) := by
  cases d <;> simp [actDecideHold, h, hs]

theorem actDecideHold_not_held (h : s.pallet n = some p) (hs : p.state ≠ .held) (d : Decision) :
    actDecideHold (n, d) s = (s, .now (if n ∈ s.cku.holdEnded then .tooLate else .wrongState) []) := by
  by_cases he : n ∈ s.cku.holdEnded <;> simp [actDecideHold, h, hs, he]

end

end State
open State

/-- DECIDE HOLD answered: the owner's state with its reply. -/
theorem exec_decideHold {s u : State} {tag : Byte} {n : TrackNo} {d : Nat} {st : Status} (h : s.hears reqDecideHold = true)
    (hd : d = 1 ∨ d = 2) (ha : actDecideHold (n, Decision.ofCode d) s = (u, .now st [])) :
    exec (.decideHold tag (u8 n.number ++ u8 d)) s = .next (u.replied tag 0x29 st []) :=
  congrArg Host.Outcome.next (heard h (by rw [← ha]; simp [reqDecideHold, argDecide_u8 n hd]))

/-- Settles O22: by the record's state, and the end of the hold by `endHold_eq`. -/
theorem holdIsDecidedOrTimesOut : Obligations.HoldIsDecidedOrTimesOut := by
  refine ⟨fun s tag n h => ?_, fun s h => ?_⟩
  · intro ended cleared
    have hended : s.endHold n = ended := endHold_eq n s
    refine ⟨fun hp d hd => exec_decideHold h hd (by simp [actDecideHold, hp]), fun hs => ?_,
      fun p hp hs d hd => exec_decideHold h hd (actDecideHold_not_held hp hs _)⟩
    obtain ⟨p, hp, hheld⟩ : ∃ p, s.pallet n = some p ∧ p.state = .held := by simpa [palletState] using hs
    refine ⟨(exec_decideHold h (.inl rfl) (actDecideHold_held hp hheld _)).trans ?_,
      (exec_decideHold h (.inr rfl) (actDecideHold_held hp hheld _)).trans ?_⟩
    · refine (congrArg (fun u => Host.Outcome.next ((settle u).replied tag 0x29 .ok []))
        (overrideHold_of_ended hended)).trans ?_
      cases cleared.allocate n <;> rfl
    · exact congrArg (fun u => Host.Outcome.next ((u.reject n none).settle.replied tag 0x29 .ok [])) hended
  · have expired : exec .holdTimerExpiry s = .next s.holdTimeout.settle.pump := congrArg Host.Outcome.next (event_of _ h)
    refine ⟨fun n ht hr hs => ?_, fun hstop => ?_⟩
    · rw [expired, holdTimeout_held ht hr hs, divertHold, endHold_eq]
    · rw [expired, holdTimeout_stopped hstop]

/-- Settles O23: the operands read back, and what the owners write. -/
theorem headsAndClockAreSet : Obligations.HeadsAndClockAreSet := by
  intro s tag h
  refine ⟨fun heads hl hr => congrArg Host.Outcome.next (heard (r := reqInhibitHeads) (hears_of_class h rfl) ?_),
    fun value hv => congrArg Host.Outcome.next (heard h ?_)⟩
  · simp [reqInhibitHeads, argHeads_counted hl hr, actInhibitHeads]
  · simp only [reqSetClock, argClock_u32 hv, withArgs_ok, actSetClock, okay_eq, timeBytes, now]
    rfl

end Sys2Proof.Machine

namespace Sys2Proof.Machine

namespace State

/-! ### The emergency stop of the zones (R100) -/

/-- A zone as the opening of the chain leaves it (R100). -/
def chainInterrupted (r : ZoneRecord) : ZoneRecord :=
  if r.state = .leaving ∨ r.state = .reserved
  then { r with drive := false, interrupted := true, moveTimer := .stopped }
  else { r with drive := false }

theorem interruptMoves_eq (s : State) : s.interruptMoves =
    (Zone.all.foldl (fun s z => s.modZone z chainInterrupted) s).modZnc fun u => { u with
      gates := Vector.replicate 6 false } := by
  have stopped : ∀ r : ZoneRecord, (if r.state = .leaving ∨ r.state = .reserved
      then { r with drive := false, interrupted := true, moveTimer := .stopped }
      else { r with drive := false }) = chainInterrupted r := fun _ => rfl
  simp only [interruptMoves, stopped]

theorem zone_interruptMoves (s : State) (z : Zone) : s.interruptMoves.zone z = chainInterrupted (s.zone z) := by
  have gatesClosed : ∀ u : State, (u.modZnc fun k => { k with gates := Vector.replicate 6 false }).zone z = u.zone z :=
    fun _ => rfl
  rw [interruptMoves_eq, gatesClosed, zone_foldl_modZone Zone.all zone_all_nodup, if_pos (zone_mem_all z)]

/-- Changes of zones leave the other fields of the zone unit. -/
theorem foldl_modZone_znc (l : List Zone) (f : ZoneRecord → ZoneRecord) (s : State) :
    ∃ zones, (l.foldl (fun s z => s.modZone z f) s).znc = { s.znc with zones := zones } := by
  induction l generalizing s with
  | nil => exact ⟨_, rfl⟩
  | cons z rest ih =>
    obtain ⟨zones, h⟩ := ih (s.modZone z f)
    exact ⟨zones, h⟩

theorem interruptMoves_znc (s : State) :
    ∃ zones, s.interruptMoves.znc = { s.znc with zones := zones, gates := Vector.replicate 6 false } := by
  obtain ⟨zones, h⟩ := foldl_modZone_znc Zone.all chainInterrupted s
  exact ⟨zones, by rw [interruptMoves_eq, modZnc_znc, h]⟩

/-! ### The emergency stop of the wrappers (R118) -/

/-- A wrapper as the opening of the chain leaves it (R118). -/
def chainVoided (r : WrapperRecord) : WrapperRecord :=
  if r.state = .wrapping then { r with
    state := .paused, pauseCause := some .estop, abortCut := false,
    channel := { r.channel with state := .idle, command := none, acceptance := false, pass := .stopped } }
  else r

theorem wrapper_stopWrap (w v : Wrapper) (s : State) :
    (s.stopWrap w).wrapper v = if v = w then chainVoided (s.wrapper w) else s.wrapper v := by
  by_cases h : (s.wrapper w).state = .wrapping
  · by_cases hv : v = w <;> simp [stopWrap, pauseWrap, chainVoided, Channel.idled, h, hv]
  · by_cases hv : v = w <;> simp [stopWrap, chainVoided, h, hv]

/-! ### The emergency stop of the labeller (R144) -/

@[simp] theorem faceStep_setStep (f g : Face) (step : FaceStep) (s : State) :
    (s.setStep f step).faceStep g = if g = f then step else s.faceStep g := by
  cases f <;> cases g <;> rfl

@[simp] theorem faceStep_stopApply (f g : Face) (s : State) : (s.stopApply f).faceStep g = s.faceStep g := rfl

/-- The apply in flight on a face is voided. -/
def voidApply (f : Face) (s : State) : State :=
  if s.faceStep f = .applying then (s.stopApply f).setStep f .toApply else s

/-- The read in flight of a face is voided. -/
def voidReadOf (f : Face) (s : State) : State := if s.faceStep f = .reading then s.setStep f .toRead else s

theorem faceStep_voidApply (f g : Face) (s : State) : (s.voidApply f).faceStep g =
    if g = f ∧ s.faceStep f = .applying then .toApply else s.faceStep g := by
  by_cases h : s.faceStep f = .applying <;> simp [voidApply, h]

theorem faceStep_voidReadOf (f g : Face) (s : State) : (s.voidReadOf f).faceStep g =
    if g = f ∧ s.faceStep f = .reading then .toRead else s.faceStep g := by
  by_cases h : s.faceStep f = .reading <;> simp [voidReadOf, h]

/-- After it the face is not APPLYING, and no other face has become so. -/
theorem voidApply_not_applying {f g : Face} {s : State} (h : g = f ∨ s.faceStep g ≠ .applying) :
    (s.voidApply f).faceStep g ≠ .applying := by
  rw [faceStep_voidApply]
  split
  · decide
  · rename_i hc
    exact h.elim (fun hg ha => hc ⟨hg, hg ▸ ha⟩) id

/-- After it the face is not READING, and no face has become READING or APPLYING. -/
theorem voidReadOf_not_reading {f g : Face} {s : State} (h : g = f ∨ s.faceStep g ≠ .reading) :
    (s.voidReadOf f).faceStep g ≠ .reading := by
  rw [faceStep_voidReadOf]
  split
  · decide
  · rename_i hc
    exact h.elim (fun hg hr => hc ⟨hg, hg ▸ hr⟩) id

theorem voidReadOf_not_applying {f g : Face} {s : State} (h : s.faceStep g ≠ .applying) :
    (s.voidReadOf f).faceStep g ≠ .applying := by
  rw [faceStep_voidReadOf]
  split
  · decide
  · exact h

theorem voidApply_state (f : Face) (s : State) : (s.voidApply f).lbu.state = s.lbu.state := by
  unfold voidApply; split <;> rfl

theorem voidReadOf_state (f : Face) (s : State) : (s.voidReadOf f).lbu.state = s.lbu.state := by
  unfold voidReadOf; split <;> rfl

theorem voidRead_eq (s : State) : s.voidRead = ((s.voidReadOf .side).voidReadOf .fend).stopRead := rfl

/-- A cycle suspended: its applies and its read voided, face by face (R144). -/
theorem suspendCycle_of {s : State} (h : s.lbu.state = .cycle) : s.suspendCycle =
    ((((s.voidApply .side).voidApply .fend).voidReadOf .side).voidReadOf .fend).stopRead.modLbu fun l =>
      { l with suspended := true } := by
  simp only [suspendCycle, h, if_true, voidRead_eq]
  rfl

theorem suspendCycle_idle {s : State} (h : s.lbu.state ≠ .cycle) : s.suspendCycle = s := if_neg h

/-- A suspended cycle has nothing in flight (R144). -/
theorem suspendCycle_lbu {s : State} (h : s.lbu.state = .cycle) : s.suspendCycle.lbu.state = .cycle ∧
    s.suspendCycle.lbu.suspended = true ∧ s.suspendCycle.lbu.readTimer = .stopped ∧
    ∀ f, s.suspendCycle.faceStep f ≠ .applying ∧ s.suspendCycle.faceStep f ≠ .reading := by
  let u := (((s.voidApply .side).voidApply .fend).voidReadOf .side).voidReadOf .fend
  have hstate : u.lbu.state = .cycle := by simp [u, voidReadOf_state, voidApply_state, h]
  have hstep : ∀ f, u.faceStep f ≠ .applying ∧ u.faceStep f ≠ .reading := by
    intro f
    have ha : ((s.voidApply .side).voidApply .fend).faceStep f ≠ .applying := by
      cases f with
      | side => exact voidApply_not_applying (.inr (voidApply_not_applying (.inl rfl)))
      | fend => exact voidApply_not_applying (.inl rfl)
    have hr : u.faceStep f ≠ .reading := by
      cases f with
      | side => exact voidReadOf_not_reading (.inr (voidReadOf_not_reading (.inl rfl)))
      | fend => exact voidReadOf_not_reading (.inl rfl)
    exact ⟨voidReadOf_not_applying (voidReadOf_not_applying ha), hr⟩
  rw [show s.suspendCycle = u.stopRead.modLbu fun l => { l with suspended := true } from suspendCycle_of h]
  clear_value u
  exact ⟨hstate, rfl, rfl, hstep⟩

/-! ### The emergency stop of the check (R76) -/

theorem abandon_idle {s : State} (h : s.cku.state ≠ .capturing) : s.abandon = s := if_neg h

/-- A capture abandoned (R76; log 20). -/
theorem abandon_cku {s : State} (h : s.cku.state = .capturing) : s.abandon.cku = { s.cku with
    state := .abandoned, weight := .off, frame := .off, weightTimer := .stopped, scanTimer := .stopped,
    snapshot := none, counts := ⟨0, 0, 0, 0⟩, rows := 0, recipe := none } := by
  cases ht : s.cku.track <;> simp [abandon, h, ht, Counts.zero]

/-- Its record loses what the capture had found (R76; log 20). -/
theorem abandon_pallet {s : State} {n : TrackNo} (h : s.cku.state = .capturing) (ht : s.cku.track = some n)
    (m : TrackNo) : s.abandon.pallet m = if m = n
      then (s.pallet n).map fun p => { p with gross := none, profile := none, reasons := [] } else s.pallet m := by
  simp [abandon, h, ht]

/-! ### The opening of the chain (R203) -/

/-- The chain open and the line STOPPED by it, before the blocks are told (R201, R203). -/
def chainStopped (s : State) : State :=
  let opened := s.modLsv fun v => { v with chainOpen := true }
  if s.lsv.line = .running ∨ s.lsv.line = .halted then opened.enterLine .stopped .estopOpened else opened

theorem openChain_of {s : State} (h : s.lsv.chainOpen = false) : s.openChain = s.chainStopped.stopBlocks.testInfeed := by
  simp only [openChain, h]
  rfl

theorem openChain_again {s : State} (h : s.lsv.chainOpen = true) : s.openChain = s := if_pos h

/-- The stop of the line writes the supervisor and makes a notice. -/
@[simp] theorem chainStopped_frame (s : State) :
    s.chainStopped.trt = s.trt ∧ s.chainStopped.obk = s.obk ∧ s.chainStopped.cku = s.cku ∧
    s.chainStopped.znc = s.znc ∧ s.chainStopped.wsq = s.wsq ∧ s.chainStopped.lbu = s.lbu ∧
    s.chainStopped.lnu = s.lnu ∧ s.chainStopped.sdu = s.sdu ∧ s.chainStopped.pins = s.pins ∧
    s.chainStopped.ports = s.ports ∧ s.chainStopped.freeCount = s.freeCount ∧ s.chainStopped.pending = s.pending := by
  unfold chainStopped
  by_cases h : s.lsv.line = .running ∨ s.lsv.line = .halted <;> simp [h]

theorem chainStopped_lsv (s : State) : s.chainStopped.lsv = { s.lsv with
    chainOpen := true,
    line := if s.lsv.line = .running ∨ s.lsv.line = .halted then .stopped else s.lsv.line } := by
  unfold chainStopped
  by_cases h : s.lsv.line = .running ∨ s.lsv.line = .halted <;> simp [h, enterLine]

theorem chainStopped_notices {s : State} (h : s.lku.notices.length < 32) : s.chainStopped.lku.notices =
    if s.lsv.line = .running ∨ s.lsv.line = .halted
    then s.lku.notices ++ [⟨.line s.lsv.line .stopped .estopOpened s.lsv.key true, s.now, s.lku.gap⟩]
    else s.lku.notices := by
  unfold chainStopped
  by_cases hl : s.lsv.line = .running ∨ s.lsv.line = .halted
  · rw [if_pos hl, if_pos hl]
    exact notify_notices (s := (s.modLsv fun v => { v with chainOpen := true }).modLsv fun v => { v with line := .stopped })
      h _
  · rw [if_neg hl, if_neg hl]
    rfl

theorem chainStopped_sending (s : State) : s.chainStopped.lku.sending = s.lku.sending := by
  unfold chainStopped
  by_cases h : s.lsv.line = .running ∨ s.lsv.line = .halted <;> simp [h, enterLine]

/-- A transmitter that is sending does not choose. -/
theorem pump_busy {s : State} (h : s.lku.sending.isSome = true) : s.pump = s := by
  simp [pump, h]

theorem stopBlocks_zone (s : State) (z : Zone) : s.stopBlocks.zone z = chainInterrupted (s.zone z) := by
  rw [← zone_interruptMoves]
  exact zone_congr (by simp [stopBlocks]) z

theorem stopBlocks_znc (s : State) :
    ∃ zones, s.stopBlocks.znc = { s.znc with zones := zones, gates := Vector.replicate 6 false } := by
  obtain ⟨zones, h⟩ := interruptMoves_znc s
  exact ⟨zones, by simp [stopBlocks, h]⟩

theorem stopBlocks_wrapper (s : State) (w : Wrapper) : s.stopBlocks.wrapper w = chainVoided (s.wrapper w) := by
  have hw : s.stopBlocks.wrapper w = ((s.interruptMoves.stopWrap .a).stopWrap .b).wrapper w :=
    wrapper_congr (by simp [stopBlocks]) w
  have hi : ∀ v, s.interruptMoves.wrapper v = s.wrapper v := wrapper_congr (by simp)
  rw [hw, wrapper_stopWrap, wrapper_stopWrap, wrapper_stopWrap, hi, hi, hi]
  cases w <;> rfl

/-- The label unit and the check are told last, and each by itself. -/
theorem stopBlocks_lbu (s : State) : ∃ u : State, u.lbu = s.lbu ∧ s.stopBlocks.lbu = u.suspendCycle.lbu :=
  ⟨(s.interruptMoves.stopWrap .a).stopWrap .b, by simp, by simp [stopBlocks]⟩

theorem stopBlocks_check (s : State) : ∃ u : State, u.cku = s.cku ∧ u.trt = s.trt ∧ s.stopBlocks = u.abandon :=
  ⟨((s.interruptMoves.stopWrap .a).stopWrap .b).suspendCycle, by simp, by simp, rfl⟩

/-! ### The state after the opening of the chain, block by block -/

/-- The part after the opening of the chain, with an idle transmitter having chosen (R203, R196). -/
def chainOpened (s : State) : State :=
  (s.modPins fun p => { p with chainOpen := true }).chainStopped.stopBlocks.testInfeed.pump

theorem exec_chainOpens {s : State} (h : s.inReset = false) (ht : s.taking = true) :
    exec .chainOpens s = .next (s.modPins fun p => { p with chainOpen := true }).openChain.pump :=
  congrArg Host.Outcome.next (arrival_of _ h ht)

theorem exec_chainOpens_closed {s : State} (h : s.inReset = false) (ht : s.taking = true)
    (hc : s.lsv.chainOpen = false) : exec .chainOpens s = .next s.chainOpened := by
  rw [exec_chainOpens h ht, openChain_of (s := s.modPins _) hc, chainOpened]

section
variable (s : State)

theorem chainOpened_lsv : s.chainOpened.lsv = { s.lsv with
    chainOpen := true,
    line := if s.lsv.line = .running ∨ s.lsv.line = .halted then .stopped else s.lsv.line } := by
  have hl : s.chainOpened.lsv = (s.modPins fun p => { p with chainOpen := true }).chainStopped.lsv := by
    simp [chainOpened]
  exact hl.trans (chainStopped_lsv _)

theorem chainOpened_zone (z : Zone) : s.chainOpened.zone z = chainInterrupted (s.zone z) := by
  have hz : s.chainOpened.zone z = (s.modPins fun p => { p with chainOpen := true }).chainStopped.stopBlocks.zone z := by
    simp [chainOpened, testInfeed, zone]
  rw [hz, stopBlocks_zone]
  exact congrArg chainInterrupted (zone_congr (by simp) z)

theorem chainOpened_znc : (∀ g : Lane, s.chainOpened.znc.gates[g] = false) ∧
    s.chainOpened.znc.laneWait = s.znc.laneWait ∧ s.chainOpened.znc.route = s.znc.route := by
  obtain ⟨zones, hznc⟩ := stopBlocks_znc (s.modPins fun p => { p with chainOpen := true }).chainStopped
  simp [chainOpened, testInfeed, hznc]

theorem chainOpened_wrapper (w : Wrapper) : s.chainOpened.wrapper w = chainVoided (s.wrapper w) := by
  have hw : s.chainOpened.wrapper w =
      (s.modPins fun p => { p with chainOpen := true }).chainStopped.stopBlocks.wrapper w :=
    wrapper_congr (by simp [chainOpened]) w
  rw [hw, stopBlocks_wrapper]
  exact congrArg chainVoided (wrapper_congr (by simp) w)

/-- The label unit suspends its cycle, by itself. -/
theorem chainOpened_lbu : ∃ u : State, u.lbu = s.lbu ∧ s.chainOpened.lbu = u.suspendCycle.lbu := by
  obtain ⟨u, hu, hs⟩ := stopBlocks_lbu (s.modPins fun p => { p with chainOpen := true }).chainStopped
  exact ⟨u, hu.trans (by simp), by simp [chainOpened, hs]⟩

/-- The check abandons its capture, by itself. -/
theorem chainOpened_check : ∃ u : State, u.cku = s.cku ∧ u.trt = s.trt ∧ s.chainOpened.cku = u.abandon.cku ∧
    s.chainOpened.trt = u.abandon.trt := by
  obtain ⟨u, hcku, htrt, hs⟩ := stopBlocks_check (s.modPins fun p => { p with chainOpen := true }).chainStopped
  exact ⟨u, hcku.trans (by simp), htrt.trans (by simp), by simp [chainOpened, hs], by simp [chainOpened, hs]⟩

theorem chainOpened_notices (h : s.lku.sending.isSome = true) (hl : s.lku.notices.length < 32) :
    s.chainOpened.lku.notices = if s.lsv.line = .running ∨ s.lsv.line = .halted
      then s.lku.notices ++ [⟨.line s.lsv.line .stopped .estopOpened s.lsv.key true, s.now, s.lku.gap⟩]
      else s.lku.notices := by
  rw [chainOpened, pump_busy (by simpa [chainStopped_sending] using h)]
  simp only [testInfeed_frame, stopBlocks_frame]
  exact chainStopped_notices (s := s.modPins _) hl

end

end State
open State

/-- Settles O52: block by block, each by its own rule for the opening of the chain. -/
theorem chainStopsTheLine : Obligations.ChainStopsTheLine := by
  refine ⟨fun s h ht hc => ?_, fun s h ht => ⟨congrArg Host.Outcome.next (arrival_of _ h ht), fun hc => ?_⟩⟩
  · obtain ⟨hgates, hwait, hroute⟩ := s.chainOpened_znc
    obtain ⟨u, hu, hlbu⟩ := s.chainOpened_lbu
    obtain ⟨v, hcku, htrt, hcku', htrt'⟩ := s.chainOpened_check
    refine ⟨s.chainOpened, exec_chainOpens_closed h ht hc, s.chainOpened_lsv, s.chainOpened_zone, hgates, hwait, hroute,
      s.chainOpened_wrapper, fun hcycle => ?_, fun hcycle => ?_, fun hcap => ?_, s.chainOpened_notices, fun hcap => ?_,
      fun b hb => ?_⟩
    · have suspended := suspendCycle_lbu (s := u) (hu ▸ hcycle)
      unfold faceStep at suspended ⊢
      rwa [hlbu]
    · rw [hlbu, suspendCycle_idle (hu ▸ hcycle), hu]
    · have habandoned := abandon_cku (s := v) (hcku ▸ hcap)
      rw [hcku', habandoned, hcku]
      refine ⟨rfl, rfl, rfl, rfl, rfl, rfl, rfl, rfl, fun n p hn hp => ?_⟩
      have hpallet (m : TrackNo) := (pallet_congr htrt' m).trans (abandon_pallet (s := v) (hcku ▸ hcap) (hcku ▸ hn) m)
      have hv (m : TrackNo) : v.pallet m = s.pallet m := pallet_congr htrt m
      exact ⟨by rw [hpallet, if_pos rfl, hv, hp]; rfl, fun m hm => by rw [hpallet, if_neg hm, hv]⟩
    · rw [hcku', htrt', abandon_idle (hcku ▸ hcap)]
      exact ⟨hcku, htrt⟩
    · cases b <;> simp [Block.same, chainOpened] at hb ⊢
  · rw [exec_chainOpens h ht, openChain_again (s := s.modPins _) hc]

end Sys2Proof.Machine

namespace Sys2Proof.Machine

namespace State

/-! ### The labeller at RESTART LINE (R145) -/

section
variable {s : State} {n : TrackNo} {p : Pallet}

/-- A face TO_APPLY with two applies behind it (R142). -/
def faceSpent (s : State) (p : Pallet) (f : Face) : Bool :=
  s.faceStep f == .toApply && decide (2 ≤ (p.faces.face f).attempts)

/-- A face as a resuming cycle leaves it: NO_READ when it is spent (R142). -/
def faceWritten (s : State) (p : Pallet) (f : Face) : FaceRecord :=
  { p.faces.face f with result := if s.faceSpent p f then .noRead else (p.faces.face f).result }

theorem spent_of (ht : s.lbu.track = some n) (h : s.pallet n = some p) (f : Face) : s.spent f = s.faceSpent p f := by
  simp [spent, faceSpent, faceAttempts, ht, h, Config.applyLimit]

/-- A spent face of the label track's record is written NO_READ. -/
def markSpent (f : Face) (s : State) : State :=
  if s.spent f then s.modFace f fun r => { r with result := .noRead } else s

theorem markSpent_of (ht : s.lbu.track = some n) (h : s.pallet n = some p) (f : Face) :
    s.markSpent f = s.putPallet n (some { p with faces := p.faces.setFace f (s.faceWritten p f) }) := by
  unfold markSpent faceWritten
  rw [spent_of ht h]
  cases hs : s.faceSpent p f with
  | true => simp [modFace, ht, modPallet_of h]
  | false =>
    have same : p.faces.setFace f (p.faces.face f) = p.faces := by cases f <;> rfl
    simp [same, putPallet_self h]

/-- A suspended cycle resumes when no face is spent (R145). -/
theorem unsuspend_advances (hs : s.lbu.suspended = true) (hc : s.lbu.state = .cycle)
    (hn : ∀ f, s.spent f = false) :
    s.unsuspend = (s.modLbu fun l => { l with suspended := false }).advance := by
  have resumed : (s.modLbu fun l => { l with state := .cycle, suspended := false }) =
      s.modLbu fun l => { l with suspended := false } := by simp only [modLbu, ← hc]
  have hn' (f : Face) : (s.modLbu fun l => { l with suspended := false }).spent f = false := hn f
  simp [unsuspend, hs, hc, resumeCycle, resumed, hn']

/-- Both faces marked, one after the other. -/
theorem markSpent_both (ht : s.lbu.track = some n) (h : s.pallet n = some p) :
    (s.markSpent .side).markSpent .fend =
      s.putPallet n (some { p with faces := ⟨s.faceWritten p .side, s.faceWritten p .fend⟩ }) := by
  let q : Pallet := { p with faces := p.faces.setFace .side (s.faceWritten p .side) }
  have hq : (s.putPallet n (some q)).pallet n = some q := by simp
  have ht' : (s.putPallet n (some q)).lbu.track = some n := ht
  rw [markSpent_of ht h, markSpent_of ht' hq, putPallet_putPallet]
  rfl

/-- The end of a cycle clears the suspended mark whatever it was. -/
theorem endCycle_unsuspended (s : State) : (s.modLbu fun l => { l with suspended := false }).endCycle = s.endCycle := rfl

/-- A suspended cycle with a spent face ends with its record rejected (R142, R145). -/
theorem unsuspend_rejects {f : Face} (hs : s.lbu.suspended = true) (hc : s.lbu.state = .cycle)
    (ht : s.lbu.track = some n) (h : s.pallet n = some p) (hf : s.spent f = true) :
    s.unsuspend = ((s.putPallet n (some { p with faces := ⟨s.faceWritten p .side, s.faceWritten p .fend⟩ })).reject n
      (some .labelNoRead)).endCycle := by
  let u := s.modLbu fun l => { l with suspended := false }
  have resumed : (s.modLbu fun l => { l with state := .cycle, suspended := false }) = u := by
    simp only [modLbu, ← hc, u]
  have either : (u.spent .side || u.spent .fend) = true := by
    have hu : u.spent f = true := hf
    cases f <;> simp [hu]
  have hut : u.lbu.track = some n := ht
  let marked := s.putPallet n (some { p with faces := ⟨s.faceWritten p .side, s.faceWritten p .fend⟩ })
  calc s.unsuspend = ((u.markSpent .side).markSpent .fend).rejectCycle .labelNoRead := by
        simp only [unsuspend, hs, hc, if_true, resumeCycle, resumed, either]
        rfl
    _ = (marked.modLbu fun l => { l with suspended := false }).rejectCycle .labelNoRead :=
        congrArg (rejectCycle .labelNoRead) (markSpent_both hut h)
    _ = ((marked.modLbu fun l => { l with suspended := false }).reject n (some .labelNoRead)).endCycle := by
        have hmt : (marked.modLbu fun l => { l with suspended := false }).lbu.track = some n := ht
        simp only [rejectCycle, hmt]
    _ = (marked.reject n (some .labelNoRead)).endCycle := by rw [reject_modLbu, endCycle_unsuspended]

theorem unsuspend_not_suspended (h : s.lbu.suspended = false) : s.unsuspend = s := by simp [unsuspend, h]

theorem unsuspend_no_cycle (hs : s.lbu.suspended = true) (hc : s.lbu.state ≠ .cycle) :
    s.unsuspend = s.modLbu fun l => { l with suspended := false } := by simp [unsuspend, hs, hc]

theorem unsuspend_lbu_no_cycle (hc : s.lbu.state ≠ .cycle) : s.unsuspend.lbu = { s.lbu with suspended := false } := by
  cases hs : s.lbu.suspended with
  | false => rw [unsuspend_not_suspended hs, ← hs]
  | true => rw [unsuspend_no_cycle hs hc]; rfl

end

/-! ### What the start of moves and the releases leave of the pallets in place (R81, R159) -/

/-- No zone has come to be OCCUPIED by a record. -/
def NoArrival (s t : State) : Prop := ∀ z n, t.occupant z = some n → s.occupant z = some n

namespace NoArrival
variable {s t u : State}

theorem refl (s : State) : NoArrival s s := fun _ _ h => h

theorem trans (h : NoArrival s t) (h' : NoArrival t u) : NoArrival s u := fun z n ho => h z n (h' z n ho)

/-- The zones decide it alone. -/
theorem of_zones (h : ∀ z, t.zone z = s.zone z ∨ (t.zone z).state ≠ .occupied) : NoArrival s t := by
  intro z n ho
  rcases h z with hz | hz
  · unfold occupant at ho ⊢
    rwa [hz] at ho
  · exact absurd (occupant_occupied ho) hz

end NoArrival

theorem noArrival_startMove {src dst : Zone} (h : src ≠ dst) (n : TrackNo) (s : State) :
    NoArrival s (s.startMove src dst n) := by
  refine NoArrival.of_zones fun z => ?_
  rw [zone_startMove h]
  split
  · exact .inr (by simp)
  · split
    · exact .inr (by simp)
    · exact .inl rfl

/-- A change of the zone unit or of the wrappers that leaves the zones. -/
theorem NoArrival.then_zones {s t u : State} (h : NoArrival s t) (hz : ∀ z, u.zone z = t.zone z) : NoArrival s u :=
  h.trans (of_zones fun z => .inl (hz z))

theorem noArrival_tryMove {src dst : Zone} (h : src ≠ dst) (ok : Pallet → Bool) (s : State) :
    NoArrival s (s.tryMove src dst ok) := by
  rw [tryMove_eq]
  split
  · split
    · exact noArrival_startMove h _ s
    · exact .refl s
  · exact .refl s

theorem noArrival_split (s : State) : NoArrival s s.split := by
  have one (n : TrackNo) (w : Wrapper) : NoArrival s
      (((s.startMove .feed (.wrap w) n).modZnc fun u => { u with splitter := w }).loadingBegun w n) :=
    (noArrival_startMove (by simp) n s).then_zones fun _ => rfl
  unfold split
  split
  · exact .refl s
  · by_cases h1 : s.qualifies s.znc.splitter.other = true
    · simp only [h1, if_true]; exact one _ _
    · by_cases h2 : s.qualifies s.znc.splitter = true
      · simp only [h1, h2]; exact one _ _
      · simp only [h1, h2]; exact .refl s

theorem noArrival_discharge (w : Wrapper) (s : State) : NoArrival s (s.discharge w) := by
  unfold discharge
  split
  · split
    · exact (noArrival_startMove (src := .wrap w) (dst := .out w) (by simp) _ s).then_zones fun _ => rfl
    · exact .refl s
  · exact .refl s

theorem noArrival_grantMerge (s : State) : NoArrival s s.grantMerge := by
  have one (n : TrackNo) (w : Wrapper) : NoArrival s (s.startMove (.out w) .merge n) :=
    noArrival_startMove (by simp) n s
  unfold grantMerge
  split
  · split
    · split
      · exact one _ _
      · exact one _ _
    · exact one _ _
    · exact one _ _
    · exact .refl s
  · exact .refl s

theorem noArrival_grantSpur (s : State) : NoArrival s s.grantSpur :=
  (noArrival_tryMove (by simp) _ s).trans (noArrival_tryMove (by simp) _ _)

theorem noArrival_moveToSort (s : State) : NoArrival s s.moveToSort := by
  unfold moveToSort
  split
  · exact .refl s
  · split
    · split
      · exact (noArrival_startMove (by simp) _ s).then_zones fun _ => rfl
      · exact .refl s
    · exact .refl s

theorem noArrival_moveToGate (s : State) : NoArrival s s.moveToGate := by
  unfold moveToGate
  split
  · split
    · exact (noArrival_startMove (by simp) _ s).then_zones fun _ => rfl
    · exact .refl s
  · exact .refl s

/-- The moves that start at the end of an event bring no record into a zone. -/
theorem noArrival_settle (s : State) : NoArrival s s.settle := by
  have moves : NoArrival s s.startMoves := by
    unfold startMoves
    refine .trans ?_ (noArrival_tryMove (by simp) _ _)
    refine .trans ?_ (noArrival_tryMove (by simp) _ _)
    refine .trans ?_ (noArrival_tryMove (by simp) _ _)
    refine .trans ?_ (noArrival_moveToGate _)
    refine .trans ?_ (noArrival_grantSpur _)
    refine .trans ?_ (noArrival_moveToSort _)
    refine .trans ?_ (noArrival_tryMove (by simp) _ _)
    refine .trans ?_ (noArrival_tryMove (by simp) _ _)
    refine .trans ?_ (noArrival_grantMerge _)
    refine .trans ?_ (noArrival_discharge .b _)
    refine .trans ?_ (noArrival_discharge .a _)
    refine .trans ?_ (noArrival_split _)
    refine .trans ?_ (noArrival_tryMove (by simp) _ _)
    refine .trans ?_ (noArrival_tryMove (by simp) _ _)
    exact noArrival_tryMove (by simp) _ s
  exact moves.then_zones (zone_settle s)

end State
end Sys2Proof.Machine

namespace Sys2Proof.Machine

namespace State

/-! ### The check through the releases (R19, R159) -/

/-- The capture of the check stands as it was. -/
structure SameCapture (s t : State) : Prop where
  state : t.cku.state = s.cku.state
  track : t.cku.track = s.cku.track
  weight : t.cku.weight = s.cku.weight
  frame : t.cku.frame = s.cku.frame
  weightTimer : t.cku.weightTimer = s.cku.weightTimer
  scanTimer : t.cku.scanTimer = s.cku.scanTimer

theorem SameCapture.of_cku {s t : State} (h : t.cku = s.cku) : SameCapture s t := by
  constructor <;> rw [h]

theorem SameCapture.trans {s t u : State} (h : SameCapture s t) (h' : SameCapture t u) : SameCapture s u :=
  ⟨h'.state.trans h.state, h'.track.trans h.track, h'.weight.trans h.weight, h'.frame.trans h.frame,
    h'.weightTimer.trans h.weightTimer, h'.scanTimer.trans h.scanTimer⟩

/-- The retirement of another record than the check track's leaves the capture (R19). -/
theorem retire_capture {s : State} {n : TrackNo} (h : s.cku.track ≠ some n) : SameCapture s (s.retire n) := by
  let u := (s.withdraw (Question.isHoldOf n)).stopWaiting n
  obtain ⟨waiters, hw⟩ := stopWaiting_cku n (s.withdraw (Question.isHoldOf n))
  have hu : u.cku = { s.cku with waiters := waiters } := by simpa using hw
  have waited : SameCapture s u := by constructor <;> rw [hu]
  have ht : u.cku.track ≠ some n := by rw [hu]; exact h
  let v := if u.cku.holdTrack = some n then u.modCku fun c => { c with holdTrack := none, holdTimer := .stopped } else u
  have held : SameCapture u v := by
    by_cases hh : u.cku.holdTrack = some n
    · simp only [v, if_pos hh]; exact ⟨rfl, rfl, rfl, rfl, rfl, rfl⟩
    · simp only [v, if_neg hh]; exact .of_cku rfl
  have retired : s.retire n =
      (v.modCku fun c => { c with holdEnded := c.holdEnded.filter (· != n) }).putPallet n none := by
    simp only [retire, v, u, if_neg ht]
  rw [retired]
  exact (waited.trans held).trans ⟨rfl, rfl, rfl, rfl, rfl, rfl⟩

theorem account_capture {s : State} {n : TrackNo} (h : s.cku.track ≠ some n) : SameCapture s (s.account n) := by
  unfold account
  split
  · rename_i p _
    split
    · rename_i a _
      let u := (s.modOrder a.order (Order.account a.line (s.dispatchEntry p))).notify (palletEvent .dispatched n p none)
      have hu : u.cku = s.cku := by simp [u]
      have retired : SameCapture u (u.retire n) := retire_capture (by rw [hu]; exact h)
      have tested : SameCapture (u.retire n) ((u.retire n).testComplete a.order) := .of_cku (by simp)
      exact ((SameCapture.of_cku hu).trans retired).trans tested
    · exact .of_cku rfl
  · exact .of_cku rfl

/-- A release is of the record OCCUPIED in the gate (R158). -/
theorem releaseTest_occupant {s : State} {g : Lane} {n : TrackNo} (h : s.releaseTest g = some n) :
    s.occupant (.gate g) = some n := by
  unfold releaseTest at h
  split at h
  · cases h
  · rename_i t ho
    rw [ho]
    split at h
    · split at h
      · split at h
        · exact h
        · cases h
      · cases h
    · cases h

/-- A gate departure leaves its gate LEAVING and the other zones as they were (R97). -/
theorem noArrival_departGate (g : Lane) (s : State) : NoArrival s (s.departGate g) := by
  have gatesOpen : ∀ (u : State) (z : Zone), (u.modZnc fun k => { k with gates := k.gates.set g true }).zone z = u.zone z :=
    fun _ _ => rfl
  refine .of_zones fun z => ?_
  rw [departGate, gatesOpen, zone_modZone]
  split
  · exact .inr (by simp)
  · exact .inl rfl

/-- The check track is not in a gate. -/
def checkPastGates (s : State) : Prop := ∀ g n, s.cku.track = some n → s.occupant (.gate g) ≠ some n

theorem checkPastGates_of {s t : State} (h : s.checkPastGates) (ht : t.cku.track = s.cku.track) (hz : NoArrival s t) :
    t.checkPastGates := fun g n hn ho => h g n (ht.symm.trans hn) (hz _ _ ho)

theorem testRelease_capture {s : State} (h : s.checkPastGates) (g : Lane) :
    SameCapture s (s.testRelease g) ∧ (s.testRelease g).checkPastGates := by
  unfold testRelease
  split
  · rename_i n hn
    have accounted : SameCapture s (s.account n) :=
      account_capture fun ht => h g n ht (releaseTest_occupant hn)
    have released : SameCapture s ((s.account n).departGate g) := accounted.trans (.of_cku (by simp))
    have stay : NoArrival s ((s.account n).departGate g) :=
      (NoArrival.of_zones fun z => .inl (zone_congr (by simp) z)).trans (noArrival_departGate g _)
    exact ⟨released, checkPastGates_of h released.track stay⟩
  · exact ⟨.of_cku rfl, h⟩

theorem testReleases_capture {s : State} (h : s.checkPastGates) : SameCapture s s.testReleases := by
  have all : ∀ (l : List Lane) (u : State), u.checkPastGates →
      SameCapture u (l.foldl (fun s n => s.testRelease n) u) := by
    intro l
    induction l with
    | nil => exact fun _ _ => .of_cku rfl
    | cons g rest ih =>
      intro u hu
      obtain ⟨same, past⟩ := testRelease_capture hu g
      exact same.trans (ih _ past)
  exact all Lane.all s h

/-- The change to RUNNING leaves the capture of a check whose record is not in a gate. -/
theorem takeRunning_capture {s : State} (h : s.checkPastGates) : SameCapture s s.takeRunning := by
  have stay : NoArrival s s.resumeWraps.settle :=
    (NoArrival.of_zones fun z => .inl (zone_congr (by simp) z)).trans (noArrival_settle _)
  have same : s.resumeWraps.settle.cku = s.cku := by simp
  have past : s.resumeWraps.settle.checkPastGates := checkPastGates_of h (congrArg CheckUnit.track same) stay
  have settled : SameCapture s.resumeWraps.settle.testReleases s.takeRunning := .of_cku (by simp [takeRunning])
  exact ((SameCapture.of_cku same).trans (testReleases_capture past)).trans settled

/-! ### RESTART LINE (R204, R205) -/

theorem resolveMove_not_interrupted {s : State} {z : Zone} (h : (s.zone z).interrupted = false) :
    s.resolveMove z = s := by
  simp [resolveMove, h]

theorem resolveMoves_none {s : State} (h : ∀ z, (s.zone z).interrupted = false) : s.resolveMoves = s := by
  have all : ∀ l : List Zone, l.foldl (fun s z => s.resolveMove z) s = s := by
    intro l
    induction l with
    | nil => rfl
    | cons z rest ih => rw [List.foldl_cons, resolveMove_not_interrupted (h z), ih]
  exact all Zone.all

/-- The line RUNNING by RESTART LINE, with its notice, before the blocks are told (R204). -/
theorem enterLine_restart {s : State} (hl : s.lsv.line = .stopped) (hk : s.lsv.key = .run) (hc : s.lsv.chainOpen = false) :
    s.enterLine .running .restart = (s.modLsv fun v => { v with line := .running }).notify
      (.line .stopped .running .restart .run false) := by
  simp [enterLine, hl, hk, hc]

theorem rearm_eq (s : State) : s.rearm = if s.cku.state = .abandoned then s.modCku fun c => { c with
    state := .capturing, weight := .armed, frame := .armed, weightTimer := .running s.sdu.inForce.weight,
    scanTimer := .running s.sdu.inForce.scan } else s := rfl

/-- The state in which RESTART LINE lets the blocks take the change to RUNNING (R205). -/
def restarted (s : State) : State := (s.resolveMoves.enterLine .running .restart).rearm.unsuspend

theorem restarted_of_none {s : State} (h : ∀ z, (s.zone z).interrupted = false) :
    s.restarted = (s.enterLine .running .restart).rearm.unsuspend := by
  rw [restarted, resolveMoves_none h]

theorem restartLine_lsv (s : State) : s.restartLine.lsv = { s.lsv with line := .running } := by
  simp [restartLine, enterLine]

theorem restartLine_lbu {s : State} (h : ∀ z, (s.zone z).interrupted = false) (hc : s.lbu.state ≠ .cycle) :
    s.restartLine.lbu = { s.lbu with suspended := false } := by
  have same : (s.enterLine .running .restart).rearm.lbu = s.lbu := by simp
  have resumed := unsuspend_lbu_no_cycle (s := (s.enterLine .running .restart).rearm) (by rw [same]; exact hc)
  show s.restarted.takeRunning.lbu = _
  rw [(takeRunning_frame s.restarted).1, restarted_of_none h, resumed, same]

/-- An abandoned check is armed again (R77). -/
theorem restartLine_capture {s : State} (h : ∀ z, (s.zone z).interrupted = false) (ha : s.cku.state = .abandoned)
    (hg : s.checkPastGates) : s.restartLine.cku.state = .capturing ∧ s.restartLine.cku.weight = .armed ∧
    s.restartLine.cku.frame = .armed ∧ s.restartLine.cku.weightTimer = .running s.sdu.inForce.weight ∧
    s.restartLine.cku.scanTimer = .running s.sdu.inForce.scan := by
  have armed : s.restarted.cku = { s.cku with
      state := .capturing, weight := .armed, frame := .armed, weightTimer := .running s.sdu.inForce.weight,
      scanTimer := .running s.sdu.inForce.scan } := by
    rw [restarted_of_none h]
    simp [rearm_eq, ha]
  have past : s.restarted.checkPastGates := by
    refine checkPastGates_of hg (by rw [armed]) (.of_zones fun z => .inl (zone_congr ?_ z))
    rw [restarted_of_none h]
    simp
  have same := takeRunning_capture past
  have hr : s.restartLine = s.restarted.takeRunning := rfl
  rw [hr, same.state, same.weight, same.frame, same.weightTimer, same.scanTimer, armed]
  exact ⟨rfl, rfl, rfl, rfl, rfl⟩

end State
open State

/-- Settles O27: the blocks of RESTART LINE each by its own rule; the change to RUNNING as it is made. -/
theorem lineIsRestarted : Obligations.LineIsRestarted := by
  refine ⟨fun s tag h => ⟨fun hno => ?_, fun hl hk hc => ?_⟩, fun s => ?_, fun s => ⟨unsuspend_not_suspended,
    unsuspend_no_cycle, fun n p hs hc ht hp => ?_⟩⟩
  · have may : s.mayRestart = false := by
      unfold mayRestart
      rcases hno with h | h | h <;> simp [h]
    exact congrArg Host.Outcome.next (heard h (by simp [reqRestartLine, argNone, structured, actRestartLine, may]))
  · have may : s.mayRestart = true := by simp [mayRestart, hl, hk, hc]
    have hlsv : s.resolveMoves.lsv = s.lsv := by simp
    refine ⟨s.restartLine.replied tag 0x2F .ok [], congrArg Host.Outcome.next (heard h
      (by simp [reqRestartLine, argNone, structured, actRestartLine, may])), by simp [restartLine_lsv],
      fun ha hi hg => ?_, fun hi hcyc => ?_, by simp, by simp, by simp, ?_⟩
    · simpa using restartLine_capture hi ha hg
    · simpa using restartLine_lbu hi hcyc
    · intro resolved entered armed
      have hentered : s.resolveMoves.enterLine .running .restart = entered :=
        enterLine_restart (by rw [hlsv, hl]) (by rw [hlsv, hk]) (by rw [hlsv, hc])
      have harmed : (s.resolveMoves.enterLine .running .restart).rearm = armed := by rw [hentered, rearm_eq]
      rw [restartLine, harmed]
  · rfl
  · intro spent written
    refine ⟨fun hnone => unsuspend_advances hs hc fun f => (spent_of ht hp f).trans (hnone f), fun ⟨f, hf⟩ => ?_⟩
    exact unsuspend_rejects hs hc ht hp ((spent_of ht hp f).trans hf)

end Sys2Proof.Machine

namespace Sys2Proof.Machine

namespace State

/-! ### The host job slot (R170, R190) -/

/-- A store request taken, with its reply ACCEPTED (R170, R190). -/
def jobAccepted (tag kind : Byte) (write : StoreWrite) (s : State) : State :=
  (s.placeJob kind write).replied tag kind .accepted (u8 s.nextJob)

theorem placeJob_job (kind : Byte) (write : StoreWrite) (s : State) : (s.placeJob kind write).lku.job = s.nextJob := by
  simp [placeJob]

/-- SDU's checks of a profile definition (R167), with the reply. -/
def profileAnswered (tag kind : Byte) (p : Profile) (s : State) : State :=
  if ¬ s.sdu.host = .empty then s.replied tag kind .busy []
  else if ∃ i, recipeEntry p.recipe = some i ∧ s.sdu.recipes[i].state ≠ .valid then s.replied tag kind .notFound []
  else match s.sdu.slotFor p.product with
    | some i => s.jobAccepted tag kind (.profile i p)
    | none => s.replied tag kind .full []

end State
open State

theorem Store.writing_iff (d : Store) :
    d.writing = true ↔ d.hostInFlight.isSome = true ∨ d.reservationInFlight.isSome = true := by
  simp [writing]

theorem acceptJob_eq (kind : Byte) (write : StoreWrite) (s : State) :
    acceptJob kind write s = (s.placeJob kind write, .now .accepted (u8 s.nextJob)) := by
  simp [acceptJob, placeJob_job]

section
variable {s : State} {tag : Byte} {body : List Byte}

/-- A request of its class answered by its owner. -/
theorem exec_answered {α : Type} {r q : Request} {c : Instr} {arg : Checked α} {act : α → State → State × Response} {a : α}
    {t : State} (hc : exec c s = .next (s.receive q tag body)) (h : s.hears r = true) (hq : q.cls = r.cls)
    (hh : q.handle tag body s = withArgs arg act s) (ha : arg = .ok a)
    (ht : (answer q.kind tag (act a s)).pump = t) : exec c s = .next t := by
  rw [hc, receive_of_hears (hears_of_class h hq), hh, ha, withArgs_ok, ht]

/-- A store request while the slot is occupied is BUSY (R170). -/
theorem answer_withSlot {kind : Byte} {further : State × Response} {t : State}
    (ht : (answer kind tag further).pump = t) : (answer kind tag (withSlot s further)).pump =
      if ¬ s.sdu.host = .empty then s.replied tag kind .busy [] else t := by
  subst ht
  by_cases hf : s.sdu.host = .empty <;> simp [withSlot, hf]

theorem answer_acceptJob (kind : Byte) (write : StoreWrite) :
    (answer kind tag (acceptJob kind write s)).pump = s.jobAccepted tag kind write := by
  rw [acceptJob_eq, answer_now, place_pump, jobAccepted]

/-- A choice of answers. -/
theorem answer_ite {kind : Byte} {c : Prop} [Decidable c] {x y : State × Response} {t u : State}
    (hx : (answer kind tag x).pump = t) (hy : (answer kind tag y).pump = u) :
    (answer kind tag (if c then x else y)).pump = if c then t else u := by
  subst hx hy
  split <;> rfl

theorem answer_refuse (kind : Byte) (st : Status) :
    (answer kind tag (refuse st s)).pump = s.replied tag kind st [] := by
  rw [refuse_eq, answer_now, place_pump]

/-- The recipe a profile names is VALID, or it names none (R167). -/
def recipeNamed (s : State) (p : Profile) : Bool :=
  match recipeEntry p.recipe with
  | some i => s.sdu.recipes[i].state == .valid
  | none => true

theorem recipeNamed_iff (p : Profile) : (!recipeNamed s p) = true ↔
    ∃ i, recipeEntry p.recipe = some i ∧ s.sdu.recipes[i].state ≠ .valid := by
  unfold recipeNamed
  cases recipeEntry p.recipe <;> simp

theorem defineProfile_eq (kind : Byte) (p : Profile) (s : State) : defineProfile kind p s =
    if s.sdu.host ≠ .empty then refuse .busy s
    else if !recipeNamed s p then refuse .notFound s
    else match s.sdu.slotFor p.product with
      | none => refuse .full s
      | some i => acceptJob kind (.profile i p) s := rfl

/-- The answer to a profile definition, from DEFINE PROFILE or SUPPLY PROFILE (R167). -/
theorem answer_defineProfile (kind : Byte) (p : Profile) :
    (answer kind tag (defineProfile kind p s)).pump = s.profileAnswered tag kind p := by
  rw [defineProfile_eq, profileAnswered]
  refine answer_ite (answer_refuse kind .busy) ?_
  simp only [← recipeNamed_iff]
  refine answer_ite (answer_refuse kind .notFound) ?_
  cases s.sdu.slotFor p.product with
  | none => exact answer_refuse kind .full
  | some i => exact answer_acceptJob kind _

end

/-- Settles O31: each store request by its owner's checks in their order. -/
theorem configureAndServiceRequestsAreTaken : Obligations.ConfigureAndServiceRequestsAreTaken := by
  refine ⟨fun s tag body => ?_, fun s tag h => ?_⟩
  · intro number job no free define
    refine ⟨fun p h ha => ?_, fun p h ha => ?_, fun product h ha => ?_, fun i r h ha => ?_, fun i h ha => ?_,
      fun v h ha => ?_, fun p h ha => ?_, fun p mark h ha => ?_⟩
    · exact exec_answered (act := actSupplyProfile) rfl h rfl rfl ha
        (answer_ite (answer_defineProfile 0x2A p) (answer_refuse 0x2A .tooLate))
    · exact exec_answered (q := reqDefineProfile) (act := defineProfile 0x40) rfl h rfl rfl ha (answer_defineProfile 0x40 p)
    · refine exec_answered (q := reqDeleteProfile) (act := actDeleteProfile) rfl h rfl rfl ha (answer_withSlot ?_)
      cases s.sdu.slotOf product with
      | none => exact answer_refuse 0x41 .notFound
      | some i => exact answer_acceptJob 0x41 _
    · exact exec_answered (q := reqDefineRecipe) (act := actDefineRecipe) rfl h rfl rfl ha
        (answer_withSlot (answer_acceptJob 0x42 _))
    · exact exec_answered (q := reqDeleteRecipe) (act := actDeleteRecipe) rfl h rfl rfl ha
        (answer_withSlot (answer_ite (answer_refuse 0x43 .inUse)
          (answer_ite (answer_refuse 0x43 .notFound) (answer_acceptJob 0x43 _))))
    · exact exec_answered (q := reqSetTiming) (act := actSetTiming) rfl h rfl rfl ha
        (answer_withSlot (answer_acceptJob 0x44 _))
    · refine exec_answered (q := reqSetSite) (act := actSetSite) rfl h rfl rfl ha (answer_withSlot ?_)
      cases s.sdu.site with
      | valid c holds =>
        obtain ⟨pre, mark⟩ := c
        cases pre with
        | none => exact answer_acceptJob 0x45 _
        | some _ => exact answer_refuse 0x45 .fixed
      | empty holds => exact answer_refuse 0x45 .wrongState
      | damaged => exact answer_refuse 0x45 .wrongState
    · refine exec_answered (q := reqRecoverSerials) (act := actRecoverSerials) rfl h rfl rfl ha
        (answer_ite (answer_refuse 0x50 .outOfRange) (answer_withSlot (answer_ite (answer_refuse 0x50 .wrongState) ?_)))
      cases markFloor s.sdu.copies with
      | none => exact answer_refuse 0x50 .storeFault
      | some floor => exact answer_ite (answer_refuse 0x50 .outOfRange) (answer_acceptJob 0x50 _)
  · refine exec_answered (r := reqResetController) (act := actResetController) (a := ()) rfl h rfl rfl rfl ?_
    rw [actResetController]
    simp only [Store.writing_iff]
    exact answer_ite (answer_refuse 0x51 .busy) rfl

end Sys2Proof.Machine

namespace Sys2Proof.Machine

/-! ### The start of a write (R171) -/

theorem Store.raised_valid {d : Store} {c : SiteData} {holds : Bool} (h : d.site = .valid c holds) :
    d.raised = { c with mark := c.mark + 100 } := by
  simp [raised, h, Config.reservationBlock]

namespace State
section
variable {s : State} {job : HostJob}

theorem startWrite_barred (h : s.sdu.hostInFlight.isSome = true ∨ s.sdu.reservationInFlight.isSome = true ∨
    s.lsv.resetPending = true) : s.startWrite = s := by
  have barred : (s.sdu.writing || s.lsv.resetPending) = true := by
    rw [Bool.or_eq_true, Store.writing_iff, or_assoc]
    exact h
  exact if_pos barred

/-- With nothing in flight and no reset pending the reservation goes before the host job (R171). -/
theorem startWrite_free (hh : s.sdu.hostInFlight = none) (hr : s.sdu.reservationInFlight = none)
    (hp : s.lsv.resetPending = false) : s.startWrite = match s.sdu.reservation, s.sdu.host with
      | .waiting, _ => s.modSdu fun d => { d with
          reservation := .inFlight d.raised, marker := some .site, writeTimer := true, started := d.started + 1 }
      | _, .waiting job => s.modSdu fun d => { d with
          host := .inFlight job, marker := some job.write.entry, writeTimer := true, started := d.started + 1 }
      | _, _ => s := by
  have free : ¬ (s.sdu.writing || s.lsv.resetPending) = true := by
    rw [Bool.or_eq_true, Store.writing_iff]
    simp [hh, hr, hp]
  exact if_neg free

/-- With both slots empty nothing starts (R171). -/
theorem startWrite_empty (hr : s.sdu.reservation = .empty) (hh : s.sdu.host = .empty) : s.startWrite = s := by
  by_cases hp : s.lsv.resetPending = true
  · exact startWrite_barred (.inr (.inr hp))
  · rw [startWrite_free (by simp [Store.hostInFlight, hh]) (by simp [Store.reservationInFlight, hr]) (by simpa using hp)]
    simp only [hr, hh]

/-! ### The end of a host job's write (R174) -/

/-- The write in flight no longer marked nor timed. -/
def writeCleared (s : State) : State := s.modSdu fun d => { d with marker := none, writeTimer := false }

theorem endWrite_host (hh : s.sdu.host = .inFlight job) (hr : s.sdu.reservation = .empty) (done : Bool) :
    s.endWrite done = (s.writeCleared.hostEnded job done).startWrite := by
  have hh' : s.sdu.hostInFlight = some job := by simp [Store.hostInFlight, hh]
  have hr' : s.sdu.reservationInFlight = none := by simp [Store.reservationInFlight, hr]
  simp only [endWrite, hh', hr']
  rfl

theorem endWrite_none (hh : s.sdu.hostInFlight = none) (hr : s.sdu.reservationInFlight = none) (done : Bool) :
    s.endWrite done = s := by
  simp only [endWrite, hh, hr]

end

/-- The store after a write of an entry other than the site entry has ended (R167 to R169, R174). -/
def entryEnded (w : StoreWrite) (done : Bool) (d : Store) : Option Store :=
  match w, done with
  | .profile i p, true => some { d with profiles := d.profiles.set i ⟨some p.product, .valid p true⟩ }
  | .profile i p, false => some { d with profiles := d.profiles.set i ⟨some p.product, .damaged⟩ }
  | .clearProfile i, true => some { d with profiles := d.profiles.set i ⟨none, .empty true⟩ }
  | .clearProfile i, false => some { d with profiles := d.profiles.set i ⟨d.profiles[i].key, .damaged⟩ }
  | .recipe i r, true => some { d with recipes := d.recipes.set i (.valid r true) }
  | .recipe i _, false => some { d with recipes := d.recipes.set i .damaged }
  | .clearRecipe i, true => some { d with recipes := d.recipes.set i (.empty true) }
  | .clearRecipe i, false => some { d with recipes := d.recipes.set i .damaged }
  | .timing v, true => some { d with timing := .valid v true, inForce := v }
  | .timing _, false => some { d with timing := .damaged }
  | .setSite _, _ => none
  | .recoverSerials _ _, _ => none

/-- What the end of such a write tells the check (R74). -/
def entryTold (w : StoreWrite) (done : Bool) (s : State) : State :=
  match w, done with
  | .profile _ p, true => s.withdrawProfile p.product
  | _, _ => s

section
variable {s : State} {job : HostJob} {done : Bool} {d : Store}

/-- The entry written, the slot freed, the completion placed, the check told (R74, R174, R191). -/
theorem hostEnded_entry (h : entryEnded job.write done s.sdu = some d) : s.writeCleared.hostEnded job done =
    ((s.modSdu fun _ => { d with host := .empty, marker := none, writeTimer := false }).place
      (.completion job.number job.kind done s.now)).entryTold job.write done := by
  obtain ⟨number, kind, w⟩ := job
  cases w <;> cases done <;> cases h <;> rfl

theorem entryTold_sdu (w : StoreWrite) (done : Bool) (s : State) : (s.entryTold w done).sdu = s.sdu := by
  unfold entryTold; split <;> simp

theorem endWrite_entry (hh : s.sdu.host = .inFlight job) (hr : s.sdu.reservation = .empty)
    (h : entryEnded job.write done s.sdu = some d) (hd : d.reservation = .empty) : s.endWrite done =
    ((s.modSdu fun _ => { d with host := .empty, marker := none, writeTimer := false }).place
      (.completion job.number job.kind done s.now)).entryTold job.write done := by
  rw [endWrite_host hh hr, hostEnded_entry h]
  refine startWrite_empty ?_ ?_ <;> simp [entryTold_sdu, hd]

theorem entryEnded_reservation {w : StoreWrite} {d e : Store} (h : entryEnded w done e = some d) :
    d.reservation = e.reservation := by
  cases w <;> cases done <;> cases h <;> rfl

/-! ### The end of a site write that failed (R135, R174) -/

/-- The site entry DAMAGED, the copy being written left free, the issue block set (R135, R174; log 14). -/
def siteFailed (job : HostJob) (c : SiteData) (s : State) : State :=
  (((s.writeCleared.partWrittenCopy c.mark).modSdu fun d => { d with site := .damaged, host := .empty }).place
    (.completion job.number job.kind false s.now)).modLbu fun l => { l with block := some .siteDamaged }

theorem hostEnded_site {c : SiteData} (h : job.write.site = some c) :
    s.writeCleared.hostEnded job false = s.siteFailed job c := by
  obtain ⟨number, kind, w⟩ := job
  cases w <;> cases h <;> rfl

theorem endWrite_site {c : SiteData} (hh : s.sdu.host = .inFlight job) (hr : s.sdu.reservation = .empty)
    (h : job.write.site = some c) : s.endWrite false = s.siteFailed job c := by
  rw [endWrite_host hh hr, hostEnded_site h]
  exact startWrite_empty hr rfl

end

end State
open State

/-- A report of the store, taken (R174; log 42). -/
theorem exec_storeWriteReport {s : State} (h : s.inReset = false) (report : StoreReport) :
    exec (.storeWriteReport report) s =
      .next (if report.write = s.sdu.started then s.endWrite report.done else s).pump :=
  congrArg Host.Outcome.next (event_of _ h)

theorem exec_writeTimerExpiry {s : State} (h : s.inReset = false) :
    exec .writeTimerExpiry s = .next (if s.sdu.writeTimer then s.endWrite false else s).pump :=
  congrArg Host.Outcome.next (event_of _ h)

/-- Settles O32: the start by `startWrite_free`, the ends by `endWrite_entry` and `endWrite_site`. -/
theorem storeWritesStartAndEnd : Obligations.StoreWritesStartAndEnd := by
  refine ⟨fun s => ⟨fun b hb => ?_, startWrite_barred, fun hh hr hp => ⟨fun c holds hw hs => ?_, fun job he hw => ?_,
    startWrite_empty⟩⟩, fun s done job d h hh hr hd => ?_, fun s job c h hh hr hs => ?_, fun s write done h hno => ?_⟩
  · cases b <;> simp [Block.same] at hb ⊢
  · rw [startWrite_free hh hr hp, hw]
    exact congrArg (fun r => { s.sdu with
      reservation := .inFlight r, marker := some .site, writeTimer := true, started := s.sdu.started + 1 })
      (Store.raised_valid hs)
  · rw [startWrite_free hh hr hp, he, hw]
    rfl
  · intro ended told
    have hentry : entryEnded job.write done s.sdu = some d := by
      obtain ⟨number, kind, w⟩ := job
      cases w with
      | setSite _ => cases done <;> exact hd.elim
      | recoverSerials _ _ => cases done <;> exact hd.elim
      | _ => cases done <;> exact congrArg some hd.symm
    have hend : s.endWrite done = told := endWrite_entry hh hr hentry ((entryEnded_reservation hentry).trans hr)
    refine ⟨?_, fun hf ht => ?_, fun hf ht => ?_⟩
    · rw [exec_storeWriteReport h, if_pos rfl, hend]
    · rw [exec_writeTimerExpiry h, if_pos ht, ← hf, hend]
    · rw [exec_writeTimerExpiry h, if_neg (by rw [ht]; decide)]
  · intro ended
    have hend : s.endWrite false = ended := endWrite_site hh hr hs
    refine ⟨?_, fun ht => ?_⟩
    · rw [exec_storeWriteReport h, if_pos rfl, hend]
    · rw [exec_writeTimerExpiry h, if_pos ht, hend]
  · rw [exec_storeWriteReport h]
    rcases hno with hw | ⟨hh, hr⟩
    · rw [if_neg hw]
    · rw [endWrite_none hh hr, ite_self]

end Sys2Proof.Machine

namespace Sys2Proof.Machine

/-! ### The station channel (R111 to R113) -/

namespace Channel
variable {c : Channel} {kind : PassKind} {number : Byte}

/-- The pass in flight under a number is the one an answer with that number speaks of. -/
theorem passOf_of (hs : c.state ≠ .idle) (hc : c.command = some ⟨kind, number⟩) (hk : kind ≠ .statusQuery) :
    c.passOf number = some kind := by
  unfold passOf
  cases h : c.state with
  | idle => exact absurd h hs
  | sent => simp [hc, hk]
  | working => simp [hc, hk]

/-- No answer speaks of a pass on an idle channel, nor under a number that is not in flight. -/
theorem passOf_none (h : c.state = .idle ∨ ∀ kind, c.command ≠ some ⟨kind, number⟩) : c.passOf number = none := by
  unfold passOf
  rcases h with h | h
  · simp [h]
  · cases c.state with
    | idle => rfl
    | sent | working =>
      cases hc : c.command with
      | none => rfl
      | some f => exact if_neg fun hf => h f.kind (by rw [hc, ← hf.1])

theorem isQuery_of (hs : c.state = .sent) (hc : c.command = some ⟨.statusQuery, number⟩) : c.isQuery number = true := by
  simp [isQuery, hs, hc]

theorem isQuery_none (h : c.state = .idle ∨ ∀ kind, c.command ≠ some ⟨kind, number⟩) : c.isQuery number = false := by
  rcases h with h | h <;> simp [isQuery, h]

end Channel

/-! ### The next step of a plan (R110) -/

section
variable {r : Recipe} {done : Nat} {sheetDone cutDone : Bool}

theorem nextPass_bottom (h : done < r.bottom) : nextPass (some r) done sheetDone cutDone = some .bottom := by
  simp [nextPass, h]

theorem nextPass_up (h : r.bottom ≤ done) (h' : done < r.bottom + r.up) :
    nextPass (some r) done sheetDone cutDone = some .up := by
  simp [nextPass, Nat.not_lt.mpr h, h']

/-- Past the passes below the sheet, the table goes on with the sheet, the top passes, those down, the cut. -/
theorem nextPass_above (h : r.bottom + r.up ≤ done) : nextPass (some r) done sheetDone cutDone =
    if done = r.bottom + r.up ∧ r.sheet = true ∧ sheetDone = false then some .sheet
    else if done < r.bottom + r.up + r.top ∧ (sheetDone = true ∨ r.sheet = false) then some .top
    else if r.bottom + r.up + r.top ≤ done ∧ done < r.passes then some .down
    else if done = r.passes ∧ (0 < r.passes ∨ r.sheet = true) ∧ cutDone = false then some .cut
    else none := by
  have hb : ¬ done < r.bottom := by omega
  have hu : ¬ done < r.bottom + r.up := by omega
  have sheetRow : (decide (done = r.bottom + r.up) && r.sheet && !sheetDone) = true ↔
      done = r.bottom + r.up ∧ r.sheet = true ∧ sheetDone = false := by
    simp only [Bool.and_eq_true, decide_eq_true_eq, Bool.not_eq_true', and_assoc]
  have topRow : (decide (done < r.bottom + r.up + r.top) && (sheetDone || !r.sheet)) = true ↔
      done < r.bottom + r.up + r.top ∧ (sheetDone = true ∨ r.sheet = false) := by
    simp only [Bool.and_eq_true, Bool.or_eq_true, decide_eq_true_eq, Bool.not_eq_true']
  have downRow : (decide (r.bottom + r.up + r.top ≤ done) && decide (done < r.passes)) = true ↔
      r.bottom + r.up + r.top ≤ done ∧ done < r.passes := by
    simp only [Bool.and_eq_true, decide_eq_true_eq]
  have cutRow : (decide (done = r.passes) && (decide (0 < r.passes) || r.sheet) && !cutDone) = true ↔
      done = r.passes ∧ (0 < r.passes ∨ r.sheet = true) ∧ cutDone = false := by
    simp only [Bool.and_eq_true, Bool.or_eq_true, decide_eq_true_eq, Bool.not_eq_true', and_assoc]
  exact (if_neg hb).trans <| (if_neg hu).trans <|
    ite_congr (propext sheetRow) (fun _ => rfl) fun _ => ite_congr (propext topRow) (fun _ => rfl) fun _ =>
    ite_congr (propext downRow) (fun _ => rfl) fun _ => ite_congr (propext cutRow) (fun _ => rfl) fun _ => rfl

end

namespace State
section
variable {s : State} {w : Wrapper} {n : TrackNo} {p : Pallet}

/-! ### The load of a wrapper (R106) -/

theorem loadTrack_of (hl : (s.wrapper w).load = .track n) : s.loadTrack w = some n := by simp [loadTrack, hl]

theorem loaded_of (hl : (s.wrapper w).load = .track n) (hp : s.pallet n = some p) : s.loaded w = some p := by
  simp [loaded, loadTrack_of hl, hp]

theorem modLoaded_of (hl : (s.wrapper w).load = .track n) (hp : s.pallet n = some p) (f : Pallet → Pallet) :
    s.modLoaded w f = s.putPallet n (some (f p)) := by
  simp [modLoaded, loadTrack_of hl, modPallet_of hp]

/-- A change of a wrapper writes its record. -/
theorem modWrapper_eq (w : Wrapper) (f : WrapperRecord → WrapperRecord) (s : State) :
    s.modWrapper w f = s.putWrapper w (f (s.wrapper w)) := rfl

/-- A notice reads nothing of a wrapper, so a wrapper's record may be written before it or after. -/
theorem notify_putWrapper (e : Event) (w : Wrapper) (r : WrapperRecord) (s : State) :
    (s.notify e).putWrapper w r = (s.putWrapper w r).notify e := by
  unfold notify
  show _ = (if s.lku.notices.length < _ then _ else _)
  split <;> rfl

@[simp] theorem wrapper_notify (e : Event) (s : State) (w : Wrapper) : (s.notify e).wrapper w = s.wrapper w :=
  wrapper_congr (by simp) w

/-! ### The sending of a command (R111) -/

/-- On an idle channel the next command is sent, and the station's port holds its message. -/
theorem send_idle (h : (s.wrapper w).channel.state = .idle) (kind : PassKind) (prestretch : Nat) (film : Option Nat) :
    s.send w kind prestretch film =
      (s.putWrapper w { s.wrapper w with channel := (s.wrapper w).channel.send kind s.now }).modPorts fun o =>
        { o with
          station := o.station.setWrapper w (some ⟨kind, (s.wrapper w).channel.last + 1, prestretch, film⟩) } := by
  simp [send, h, modWrapper_eq, Channel.send]

/-! ### The abort (R124) -/

/-- The end of an abort of a wrapper that holds a record. -/
theorem endAbort_of (hl : (s.wrapper w).load = .track n) (hp : s.pallet n = some p) :
    s.endAbort w = (s.putPallet n (some { p with state := .wrapStopped })).modWrapper w fun r =>
      { r with state := .offline, pauseCause := none, abortPending := false, abortCut := false } := by
  rw [endAbort, modLoaded_of hl hp]

/-- Without film on the pallet, or on a line that is not RUNNING, the abort ends at once. -/
theorem takeAbort_ends (hl : (s.wrapper w).load = .track n) (hp : s.pallet n = some p)
    (h : (p.passesDone = 0 ∧ (s.wrapper w).sheetDone = false) ∨ s.lsv.line ≠ .running) :
    s.takeAbort w = s.endAbort w := by
  have hc : ¬ ((0 < p.passesDone ∨ (s.wrapper w).sheetDone = true) ∧ s.lsv.line = .running) := by
    rintro ⟨hf, hr⟩
    rcases h with ⟨h0, hs⟩ | h
    · simp [h0, hs] at hf
    · exact h hr
  simp only [takeAbort, loaded_of hl hp, if_neg hc]

/-- With film on the pallet and the line RUNNING the CUT of the abort is sent. -/
theorem takeAbort_cuts (hl : (s.wrapper w).load = .track n) (hp : s.pallet n = some p)
    (hf : 0 < p.passesDone ∨ (s.wrapper w).sheetDone = true) (hr : s.lsv.line = .running) :
    s.takeAbort w = (s.modWrapper w fun r => { r with state := .wrapping, pauseCause := none, abortCut := true }).send w
      .cut ((p.plan.map (·.prestretch)).getD 0) none := by
  simp only [takeAbort, loaded_of hl hp, if_pos (And.intro hf hr)]

/-! ### The step of a wrapper (R109) -/

theorem wrapStep_not_running (h : s.lsv.line ≠ .running) : s.wrapStep w = s.putWrapper w { s.wrapper w with
    state := .paused, pauseCause := some (if s.lsv.line = .halted then .halt else .estop) } := by
  simp only [wrapStep, modWrapper_eq, putWrapper_lsv, ne_eq, h, not_false_eq_true, if_true, pauseWrap,
    putWrapper_putWrapper, wrapper_putWrapper]
  rfl

/-- On a RUNNING line, with no abort pending, the step follows the plan of the record that the wrapper holds. -/
theorem wrapStep_running (hl : (s.wrapper w).load = .track n) (hp : s.pallet n = some p)
    (ha : (s.wrapper w).abortPending = false) (hr : s.lsv.line = .running) :
    s.wrapStep w = match nextPass p.plan p.passesDone (s.wrapper w).sheetDone (s.wrapper w).cutDone with
      | none => (s.putPallet n (some { p with state := .wrapped })).putWrapper w { s.wrapper w with
          state := .discharging, pauseCause := none }
      | some kind =>
        let film := (p.plan.map (·.film)).getD 0
        if kind.isFilm = true ∧ (s.wrapper w).film < film then
          (s.putWrapper w { s.wrapper w with state := .paused, pauseCause := some .filmOut }).notify
            (.station .filmOut (.wrapper w) (some n) none none none (s.wrapper w).film)
        else (s.putWrapper w { s.wrapper w with state := .wrapping, pauseCause := none }).send w kind
          ((p.plan.map (·.prestretch)).getD 0) (if kind.isFilm then some film else none) := by
  obtain ⟨u, hu⟩ : ∃ u, u = s.modWrapper w fun r => { r with state := .wrapping, pauseCause := none } := ⟨_, rfl⟩
  have hur : u.lsv.line = .running := by rw [hu]; exact hr
  have huw : u.wrapper w = { s.wrapper w with state := .wrapping, pauseCause := none } := by simp [hu]
  have hul : (u.wrapper w).load = .track n := by rw [huw]; exact hl
  have hup : u.pallet n = some p := by rw [hu]; exact hp
  have hua : (u.wrapper w).abortPending = false := by rw [huw]; exact ha
  simp only [wrapStep, ← hu, hur, ne_eq, not_true_eq_false, if_false, hua, Bool.false_eq_true, loaded_of hul hup,
    loadTrack_of hul, modLoaded_of hul hup]
  simp only [huw]
  cases nextPass p.plan p.passesDone (s.wrapper w).sheetDone (s.wrapper w).cutDone with
  | none => simp [hu, modWrapper_eq]
  | some kind => simp [hu, modWrapper_eq, pauseWrap, stationNotice]

/-- With nothing left of the plan the record is WRAPPED and the wrapper discharges. -/
theorem wrapStep_ends (hl : (s.wrapper w).load = .track n) (hp : s.pallet n = some p)
    (ha : (s.wrapper w).abortPending = false) (hr : s.lsv.line = .running)
    (hn : nextPass p.plan p.passesDone (s.wrapper w).sheetDone (s.wrapper w).cutDone = none) :
    s.wrapStep w = (s.putPallet n (some { p with state := .wrapped })).putWrapper w { s.wrapper w with
      state := .discharging, pauseCause := none } := by
  rw [wrapStep_running hl hp ha hr, hn]

/-- A film pass for which the roll is too short pauses the wrapper (R114). -/
theorem wrapStep_film_out {kind : PassKind} {plan : Recipe} (hl : (s.wrapper w).load = .track n)
    (hp : s.pallet n = some p) (ha : (s.wrapper w).abortPending = false) (hr : s.lsv.line = .running)
    (hn : nextPass p.plan p.passesDone (s.wrapper w).sheetDone (s.wrapper w).cutDone = some kind)
    (hplan : p.plan = some plan) (hk : kind.isFilm = true) (hf : (s.wrapper w).film < plan.film) :
    s.wrapStep w = (s.putWrapper w { s.wrapper w with state := .paused, pauseCause := some .filmOut }).notify
      (.station .filmOut (.wrapper w) (some n) none none none (s.wrapper w).film) := by
  have short : kind.isFilm = true ∧ (s.wrapper w).film < (p.plan.map (·.film)).getD 0 := by simp [hplan, hk, hf]
  rw [wrapStep_running hl hp ha hr, hn]
  exact if_pos short

/-- Otherwise the next pass is sent. -/
theorem wrapStep_sends {kind : PassKind} {plan : Recipe} (hl : (s.wrapper w).load = .track n)
    (hp : s.pallet n = some p) (ha : (s.wrapper w).abortPending = false) (hr : s.lsv.line = .running)
    (hn : nextPass p.plan p.passesDone (s.wrapper w).sheetDone (s.wrapper w).cutDone = some kind)
    (hplan : p.plan = some plan) (hf : kind.isFilm = false ∨ plan.film ≤ (s.wrapper w).film) :
    s.wrapStep w = (s.putWrapper w { s.wrapper w with state := .wrapping, pauseCause := none }).send w kind
      plan.prestretch (if kind.isFilm then some plan.film else none) := by
  have enough : ¬ (kind.isFilm = true ∧ (s.wrapper w).film < (p.plan.map (·.film)).getD 0) := by
    rintro ⟨hk, hlt⟩
    rw [hplan] at hlt
    rcases hf with hf | hf
    · rw [hk] at hf; cases hf
    · exact absurd hlt (Nat.not_lt.mpr hf)
  rw [wrapStep_running hl hp ha hr, hn]
  exact (if_neg enough).trans (by rw [hplan]; rfl)

end

/-- An arrival in a wrapper zone: the wrapper is written in the record, and the wrap begins (R108). -/
theorem beginWrap_of {s : State} {n : TrackNo} {p : Pallet} (hp : s.pallet n = some p) (w : Wrapper) :
    s.beginWrap w n = State.wrapStep w
      ((s.putPallet n (some { p with wrapper := some w, state := .wrapping })).putWrapper w { s.wrapper w with
        state := .wrapping, load := .track n, sheetDone := false, cutDone := false, abortPending := false,
        abortCut := false, dischargeUnderWay := false }) := by
  rw [beginWrap, modPallet_of hp]
  rfl

end State
open State

/-- Settles O53: the rows of the table by `nextPass_above`, the step by its outcomes, the arrivals as they are handed
on. -/
theorem wrapFollowsItsPlan : Obligations.WrapFollowsItsPlan := by
  refine ⟨fun r done sheetDone cutDone hd => ?_, fun s w n p hl hp hi ha => ?_,
    fun s w n => ⟨fun p hp => beginWrap_of hp w, rfl⟩⟩
  · intro before
    have htotal : r.passes = before + r.top + r.down := rfl
    refine ⟨nextPass_bottom, nextPass_up, fun h1 h2 h3 => ?_, fun h1 h2 h3 => ?_, fun h1 h2 h3 => ?_,
      fun h1 h3 => ?_, rfl⟩
    · rw [nextPass_above (Nat.le_of_eq h1.symm), if_pos ⟨h1, h2, h3⟩]
    · have noSheet : ¬ (done = before ∧ r.sheet = true ∧ sheetDone = false) := by
        rintro ⟨-, hs, hsd⟩
        rcases h3 with h3 | h3
        · rw [hs] at h3; cases h3
        · rw [hsd] at h3; cases h3
      rw [nextPass_above h1, if_neg noSheet, if_pos ⟨h2, h3.symm⟩]
    · have noTop : ¬ done < before + r.top := Nat.not_lt.mpr h1
      rw [nextPass_above (by omega), if_neg h3, if_neg fun h => noTop h.1, if_pos ⟨h1, h2⟩]
    · have noTop : ¬ done < before + r.top := by omega
      have noDown : ¬ done < r.passes := by omega
      rw [nextPass_above (by omega), if_neg h3, if_neg fun h => noTop h.1, if_neg fun h => noDown h.2]
      simp only [h1, true_and]
  · intro r next number
    refine ⟨wrapStep_not_running, fun hr hn => wrapStep_ends hl hp ha hr hn, fun kind plan hr hn hplan =>
      ⟨fun hk hf => wrapStep_film_out hl hp ha hr hn hplan hk hf, fun hf => ?_⟩⟩
    rw [wrapStep_sends hl hp ha hr hn hplan hf, send_idle (by simpa using hi)]
    simp [Channel.send, now, r, number]

end Sys2Proof.Machine

namespace Sys2Proof.Machine
namespace State
section
variable {s : State} {w : Wrapper} {n : TrackNo} {p : Pallet} {kind : PassKind} {number : Byte}

/-! ### The answers of a station and the timers of its channel, taken (R112, R113, R121) -/

theorem exec_stationAccepted (h : s.inReset = false) (w : Wrapper) (number : Byte) :
    exec (.stationAccepted w number) s = .next (s.stationAccepts w number).pump :=
  congrArg Host.Outcome.next (event_of _ h)

theorem exec_stationDone (h : s.inReset = false) (w : Wrapper) (number : Byte) :
    exec (.stationDone w number) s = .next (s.stationOutcome w number (passDone w)).settle.pump :=
  congrArg Host.Outcome.next (event_of _ h)

theorem exec_stationFilmBreak (h : s.inReset = false) (w : Wrapper) (number : Byte) :
    exec (.stationFilmBreak w number) s = .next (s.stationOutcome w number (filmBreak w)).settle.pump :=
  congrArg Host.Outcome.next (event_of _ h)

theorem exec_stationFault (h : s.inReset = false) (w : Wrapper) (number : Byte) :
    exec (.stationFault w number) s = .next (s.stationFaults w number).pump :=
  congrArg Host.Outcome.next (event_of _ h)

theorem exec_stationStatusReport (h : s.inReset = false) (w : Wrapper) (number : Byte) (healthy loaded : Bool) :
    exec (.stationStatusReport w number healthy loaded) s =
      .next (s.statusReported w number healthy loaded).settle.pump :=
  congrArg Host.Outcome.next (event_of _ h)

theorem exec_acceptanceTimerExpiry (h : s.inReset = false) (w : Wrapper) :
    exec (.acceptanceTimerExpiry w) s = .next (s.acceptanceTimeout w).pump :=
  congrArg Host.Outcome.next (event_of _ h)

theorem exec_passTimerExpiry (h : s.inReset = false) (w : Wrapper) :
    exec (.passTimerExpiry w) s = .next (s.passTimeout w).pump :=
  congrArg Host.Outcome.next (event_of _ h)

/-! ### ACCEPTED and the outcomes, by whether they speak of the pass in flight (R112, R113) -/

theorem stationAccepts_sent (hs : (s.wrapper w).channel.state = .sent)
    (hc : (s.wrapper w).channel.command = some ⟨kind, number⟩) (hk : kind ≠ .statusQuery) :
    s.stationAccepts w number = s.putWrapper w { s.wrapper w with channel := { (s.wrapper w).channel with
      state := .working, acceptance := false, pass := .running s.sdu.inForce.pass } } := by
  have hp : (s.wrapper w).channel.passOf number = some kind := Channel.passOf_of (by rw [hs]; decide) hc hk
  simp [stationAccepts, hs, hp, modWrapper_eq]

theorem stationAccepts_not_sent (hs : (s.wrapper w).channel.state ≠ .sent) : s.stationAccepts w number = s :=
  if_neg fun h => hs h.1

theorem stationAccepts_none (h : (s.wrapper w).channel.passOf number = none) : s.stationAccepts w number = s := by
  simp [stationAccepts, h]

/-- The wrapper with its channel idled, before the outcome of its pass is handled. -/
def channelIdled (w : Wrapper) (s : State) : State := s.modWrapper w fun r => { r with channel := r.channel.idled }

@[simp] theorem wrapper_channelIdled (w v : Wrapper) (s : State) : (s.channelIdled w).wrapper v =
    if v = w then { s.wrapper w with channel := (s.wrapper w).channel.idled } else s.wrapper v := by
  simp [channelIdled]

theorem stationOutcome_of (h : (s.wrapper w).channel.passOf number = some kind) (handle : PassKind → State → State) :
    s.stationOutcome w number handle = handle kind (s.channelIdled w) := by
  simp only [stationOutcome, h]
  rfl

theorem stationOutcome_none (h : (s.wrapper w).channel.passOf number = none) (handle : PassKind → State → State) :
    s.stationOutcome w number handle = s := by
  simp only [stationOutcome, h]

theorem stationFaults_of (h : (s.wrapper w).channel.passOf number = some kind) :
    s.stationFaults w number = s.faultWrap w .unitFault := by
  simp only [stationFaults, h]

theorem stationFaults_none (h : (s.wrapper w).channel.passOf number = none) : s.stationFaults w number = s := by
  simp only [stationFaults, h]

theorem statusReported_of (h : (s.wrapper w).channel.isQuery number = true) (healthy loaded : Bool) :
    s.statusReported w number healthy loaded = s.queryEnded w (.report healthy loaded) := if_pos h

theorem statusReported_none (h : (s.wrapper w).channel.isQuery number = false) (healthy loaded : Bool) :
    s.statusReported w number healthy loaded = s := if_neg (by simp [h])

/-! ### The timers of a channel (R112, R113, R121) -/

/-- The acceptance timer of a pass command: the same command once again, then the wrapper FAULTED. -/
theorem acceptanceTimeout_pass (hs : (s.wrapper w).channel.state = .sent)
    (ha : (s.wrapper w).channel.acceptance = true) (hc : (s.wrapper w).channel.command = some ⟨kind, number⟩)
    (hk : kind ≠ .statusQuery) :
    s.acceptanceTimeout w = if (s.wrapper w).channel.resend = 0
      then s.putWrapper w { s.wrapper w with channel := { (s.wrapper w).channel with
        resend := 1, acceptance := true, lastSent := s.now } }
      else s.faultWrap w .noResponse := by
  simp only [acceptanceTimeout, hs, ha, hc, and_self, if_true, if_neg hk, modWrapper_eq]

theorem acceptanceTimeout_query (hs : (s.wrapper w).channel.state = .sent)
    (ha : (s.wrapper w).channel.acceptance = true) (hc : (s.wrapper w).channel.command = some ⟨.statusQuery, number⟩) :
    s.acceptanceTimeout w = s.queryEnded w .silent := by
  simp only [acceptanceTimeout, hs, ha, hc, and_self, if_true]

theorem acceptanceTimeout_stopped (ha : (s.wrapper w).channel.acceptance = false) : s.acceptanceTimeout w = s := by
  simp [acceptanceTimeout, ha]

theorem passTimeout_working (hs : (s.wrapper w).channel.state = .working)
    (hp : (s.wrapper w).channel.pass.isRunning = true) : s.passTimeout w = s.faultWrap w .passTimeout :=
  if_pos ⟨hs, hp⟩

theorem passTimeout_stopped (hp : (s.wrapper w).channel.pass = .stopped) : s.passTimeout w = s := by
  simp [passTimeout, hp, Timer.isRunning]

end
end State
open State

/-- Settles O54: an answer by whether it speaks of the pass in flight, a timer by whether it runs. -/
theorem stationAnswersAndTimers : Obligations.StationAnswersAndTimers := by
  refine ⟨fun s w number h => ⟨fun kind hs hc hk => ?_, fun hs => ?_, fun hno => ?_⟩, fun s w h =>
    ⟨fun kind number hs hc hk ha => ?_, fun ha => ?_, fun hs hp => ?_, fun hp => ?_⟩⟩
  · rw [exec_stationAccepted h, stationAccepts_sent hs hc hk]
  · rw [exec_stationAccepted h, stationAccepts_not_sent (by rw [hs]; decide)]
  · have noPass : (s.wrapper w).channel.passOf number = none := Channel.passOf_none hno
    rw [exec_stationAccepted h, stationAccepts_none noPass, exec_stationDone h, exec_stationFilmBreak h,
      stationOutcome_none noPass, stationOutcome_none noPass, exec_stationFault h, stationFaults_none noPass]
    refine ⟨rfl, rfl, rfl, rfl, fun healthy loaded => ?_⟩
    rw [exec_stationStatusReport h, statusReported_none (Channel.isQuery_none hno)]
  · rw [exec_acceptanceTimerExpiry h, acceptanceTimeout_pass hs ha hc hk]
    exact congrArg Host.Outcome.next (apply_ite State.pump _ _ _)
  · rw [exec_acceptanceTimerExpiry h, acceptanceTimeout_stopped ha]
  · rw [exec_passTimerExpiry h, passTimeout_working hs hp]
  · rw [exec_passTimerExpiry h, passTimeout_stopped hp]

end Sys2Proof.Machine

namespace Sys2Proof.Machine
namespace State
section
variable {s : State} {w : Wrapper} {n : TrackNo} {p : Pallet} {kind : PassKind} {number : Byte}

/-! ### A film pass counted (R115) -/

/-- The pass in the record, the film off the roll, and LOW_FILM once when it falls below its point. -/
theorem countFilm_of {plan : Recipe} (hl : (s.wrapper w).load = .track n) (hp : s.pallet n = some p)
    (hplan : p.plan = some plan) :
    let film := (s.wrapper w).film - plan.film
    let low := film < 200 ∧ (s.wrapper w).lowFilmSent = false
    let counted := (s.putPallet n (some { p with passesDone := p.passesDone + 1 })).putWrapper w { s.wrapper w with
      film := film, lowFilmSent := (s.wrapper w).lowFilmSent || decide low }
    s.countFilm w =
      if low then counted.notify (.station .lowFilm (.wrapper w) none none none none film) else counted := by
  intro film low counted
  have hfilm : (((s.loaded w).bind (·.plan)).map (·.film)).getD 0 = plan.film := by simp [loaded_of hl hp, hplan]
  by_cases h : low
  · have hc : counted = (s.putPallet n (some { p with passesDone := p.passesDone + 1 })).putWrapper w { s.wrapper w with
        film := film, lowFilmSent := true } := by simp [counted, h]
    rw [if_pos h, hc]
    simp only [countFilm, hfilm, modLoaded_of hl hp, modWrapper_eq, stationNotice, putPallet_wrapper,
      wrapper_putWrapper, if_true, Config.lowFilmPoint, wrapper_notify, notify_putWrapper, putWrapper_putWrapper]
    exact if_pos h
  · have hc : counted = (s.putPallet n (some { p with passesDone := p.passesDone + 1 })).putWrapper w { s.wrapper w with
        film := film } := by simp [counted, h]
    rw [if_neg h, hc]
    simp only [countFilm, hfilm, modLoaded_of hl hp, modWrapper_eq, putPallet_wrapper, wrapper_putWrapper,
      if_true, Config.lowFilmPoint]
    exact if_neg h

/-! ### The ends of a pass, no abort under way (R113, R115) -/

theorem passDone_film (ha : (s.wrapper w).abortCut = false) (hk : kind.isFilm = true) :
    s.passDone w kind = (s.countFilm w).wrapStep w := by
  simp only [passDone, ha]
  cases kind with
  | bottom | up | top | down => rfl
  | sheet | cut | statusQuery => cases hk

theorem passDone_sheet (ha : (s.wrapper w).abortCut = false) : s.passDone w .sheet =
    (s.putWrapper w { s.wrapper w with sheetDone := true }).wrapStep w :=
  if_neg (by simp [ha])

theorem passDone_cut (ha : (s.wrapper w).abortCut = false) : s.passDone w .cut =
    (s.putWrapper w { s.wrapper w with cutDone := true }).wrapStep w :=
  if_neg (by simp [ha])

theorem filmBreak_pauses (ha : (s.wrapper w).abortCut = false) (hb : (s.wrapper w).abortPending = false)
    (hl : (s.wrapper w).load = .track n) : s.filmBreak w kind =
    (s.putWrapper w { s.wrapper w with state := .paused, pauseCause := some .filmBreak }).notify
      (.station .filmBreak (.wrapper w) (some n) (some kind) none none 0) := by
  have pauses : s.filmBreak w kind =
      (s.pauseWrap w .filmBreak).stationNotice .filmBreak w (s.loadTrack w) (some kind) none 0 := by
    simp only [filmBreak, ha, hb, Bool.false_eq_true, if_false]
  rw [pauses, loadTrack_of hl]
  rfl

/-! ### The ends of a pass, an abort under way (R113, R115, R124) -/

theorem passDone_abort (ha : (s.wrapper w).abortCut = true) (kind : PassKind) : s.passDone w kind =
    (s.modWrapper w fun r => { r with cutDone := true }).endAbort w := by
  simp only [passDone, ha, if_true]

theorem filmBreak_abort (ha : (s.wrapper w).abortCut = true) (kind : PassKind) :
    s.filmBreak w kind = s.endAbort w := by
  simp only [filmBreak, ha, if_true]

theorem filmBreak_pending (ha : (s.wrapper w).abortCut = false) (hb : (s.wrapper w).abortPending = true)
    (kind : PassKind) : s.filmBreak w kind = s.takeAbort w := by
  simp only [filmBreak, ha, hb, Bool.false_eq_true, if_false, if_true]

/-! ### A wrapper FAULTED (R120) -/

theorem faultWrap_of (hl : (s.wrapper w).load = .track n) (hp : s.pallet n = some p) (cause : FaultCause) :
    let stopped := if p.state = .wrapping then { p with state := .wrapStopped } else p
    s.faultWrap w cause = ((s.putPallet n (some stopped)).putWrapper w
      { s.wrapper w with
        state := .faulted, faultCause := some cause, pauseCause := none, abortPending := false, abortCut := false,
        channel := (s.wrapper w).channel.idled }).notify
      (.station .faulted (.wrapper w) (some n) ((s.wrapper w).channel.command.map (·.kind)) (some cause) none 0) := by
  intro stopped
  obtain ⟨u, hu⟩ : ∃ u, u = s.putWrapper w { s.wrapper w with
      state := .faulted, faultCause := some cause, pauseCause := none, abortPending := false, abortCut := false,
      channel := (s.wrapper w).channel.idled } := ⟨_, rfl⟩
  have hul : (u.wrapper w).load = .track n := by simpa [hu] using hl
  have hup : u.pallet n = some p := by rw [hu]; exact hp
  have hvl : ∀ q, ((u.putPallet n q).wrapper w).load = .track n := fun _ => hul
  simp only [faultWrap, modWrapper_eq, ← hu, modLoaded_of hul hup, loadTrack_of (hvl _), stationNotice]
  rw [hu]
  rfl

end
end State
open State

/-- Settles O55: the channel idled, then the outcome of the pass by its kind; a wrapper FAULTED by `faultWrap_of`. -/
theorem stationPassesEnd : Obligations.StationPassesEnd := by
  refine ⟨fun s w n p plan kind number h hs hc hk hl hp hplan ha => ?_,
    fun s w n p cause hl hp => faultWrap_of hl hp cause⟩
  intro r idle
  have inFlight : (s.wrapper w).channel.passOf number = some kind := Channel.passOf_of hs hc hk
  have idled : s.channelIdled w = s.putWrapper w { r with channel := idle } := rfl
  have hl' : ((s.channelIdled w).wrapper w).load = .track n := by simpa using hl
  have ha' : ((s.channelIdled w).wrapper w).abortCut = false := by simpa using ha
  have hp' : (s.channelIdled w).pallet n = some p := hp
  rw [exec_stationDone h, exec_stationFilmBreak h, exec_stationFault h, stationOutcome_of inFlight,
    stationOutcome_of inFlight, stationFaults_of inFlight]
  refine ⟨fun hf => ?_, fun hf => ?_, fun hf => ?_, fun hb => ?_, rfl⟩
  · intro film low counted
    rw [passDone_film ha' hf, countFilm_of hl' hp' hplan, idled]
    simp [counted, low, film, r]
  · subst hf
    rw [passDone_sheet ha', idled]
    simp
  · subst hf
    rw [passDone_cut ha', idled]
    simp
  · rw [filmBreak_pauses ha' (by simpa using hb) hl', idled]
    simp

/-- Settles O56: the abort by its two ways, and the outcomes that end it or take it. -/
theorem abortTakesTheWrapperOffline : Obligations.AbortTakesTheWrapperOffline := by
  intro s w n p hl hp r offline idled
  refine ⟨fun h => (takeAbort_ends hl hp h).trans (endAbort_of hl hp), fun plan hf hr hplan hi => ?_,
    fun kind number h hs hc hk => ?_⟩
  · rw [takeAbort_cuts hl hp hf hr, send_idle (by simpa using hi)]
    simp [modWrapper_eq, Channel.send, hplan, now, r]
  · have inFlight : (s.wrapper w).channel.passOf number = some kind := Channel.passOf_of hs hc hk
    have hidled : s.channelIdled w = idled := rfl
    have cutMark : (idled.wrapper w).abortCut = r.abortCut := by simp [idled, r]
    have pendingMark : (idled.wrapper w).abortPending = r.abortPending := by simp [idled, r]
    rw [exec_stationDone h, exec_stationFilmBreak h, stationOutcome_of inFlight, stationOutcome_of inFlight, hidled]
    refine ⟨fun ha => ?_, fun ha hb => ?_⟩
    · have idledLoad : (idled.wrapper w).load = .track n := by simp [idled, hl]
      have cutLoad : ((idled.modWrapper w fun r => { r with cutDone := true }).wrapper w).load = .track n := by
        simp [idledLoad]
      rw [passDone_abort (cutMark.trans ha), filmBreak_abort (cutMark.trans ha), endAbort_of cutLoad hp,
        endAbort_of idledLoad hp]
      exact ⟨rfl, rfl⟩
    · rw [filmBreak_pending (cutMark.trans ha) (pendingMark.trans hb)]

end Sys2Proof.Machine

namespace Sys2Proof.Machine
namespace State
section
variable {s : State} {w : Wrapper} {tag : Byte} {found : Found}

/-! ### The end of a status query (R121, R128, R188) -/

/-- In POWER_UP what the query found is kept for the end of start-up. -/
theorem queryEnded_powerUp (hl : s.lsv.line = .powerUp) (found : Found) : s.queryEnded w found =
    s.putWrapper w { s.wrapper w with channel := (s.wrapper w).channel.idled, found := some found } := by
  simp only [queryEnded, modWrapper_eq, putWrapper_lsv, hl, if_true, wrapper_putWrapper, putWrapper_putWrapper]

theorem answerRestore_owed (ho : (s.wrapper w).owed = some tag) (st : Status) : s.answerRestore w st =
    (s.putWrapper w { s.wrapper w with owed := none }).place (.reply tag 0x30 st []) := by
  simp only [answerRestore, ho, modWrapper_eq]

/-- The state a healthy report restores a FAULTED wrapper to, by its load (R121). -/
def restoredState (s : State) (w : Wrapper) : WrapperState :=
  match (s.wrapper w).load with
  | .none => .idle
  | .untracked => .stopped
  | .track n => if s.palletState n = some .rejected then .discharging else .stopped

/-- A healthy report restores the wrapper, and the owed reply is OK. -/
theorem queryEnded_healthy (hl : s.lsv.line ≠ .powerUp) (ho : (s.wrapper w).owed = some tag) (loaded : Bool) :
    s.queryEnded w (.report true loaded) = (s.putWrapper w { s.wrapper w with
      channel := (s.wrapper w).channel.idled, state := s.restoredState w, faultCause := none, owed := none }).place
        (.reply tag 0x30 .ok []) := by
  let u := s.putWrapper w { s.wrapper w with
    channel := (s.wrapper w).channel.idled, state := s.restoredState w, faultCause := none }
  have hu : s.queryEnded w (.report true loaded) = u.answerRestore w .ok := by
    simp only [queryEnded, modWrapper_eq, putWrapper_lsv, if_neg hl, wrapper_putWrapper, if_true, putWrapper_putWrapper]
    cases hload : (s.wrapper w).load with
    | none | untracked => simp [u, restoredState, hload]
    | track n => simp [u, restoredState, hload, palletState]
  rw [hu, answerRestore_owed (tag := tag) (by simpa [u] using ho)]
  simp [u]

/-- An unhealthy report, and no report, leave the wrapper as it is, and the owed reply is WRONG_STATE. -/
theorem queryEnded_failed (hl : s.lsv.line ≠ .powerUp) (ho : (s.wrapper w).owed = some tag)
    (hf : ∀ loaded, found ≠ .report true loaded) : s.queryEnded w found =
      (s.putWrapper w { s.wrapper w with channel := (s.wrapper w).channel.idled, owed := none }).place
        (.reply tag 0x30 .wrongState []) := by
  let u := s.putWrapper w { s.wrapper w with channel := (s.wrapper w).channel.idled }
  have hu : s.queryEnded w found = u.answerRestore w .wrongState := by
    simp only [queryEnded, modWrapper_eq, putWrapper_lsv, if_neg hl]
    cases found with
    | silent => rfl
    | report healthy loaded =>
      cases healthy with
      | true => exact absurd rfl (hf loaded)
      | false => rfl
  rw [hu, answerRestore_owed (tag := tag) (by simpa [u] using ho)]
  simp [u]

/-! ### RESTORE WRAPPER (R121) -/

theorem actRestoreWrapper_sends (hf : (s.wrapper w).state = .faulted) (hi : (s.wrapper w).channel.state = .idle) :
    actRestoreWrapper tag w s = ((s.putWrapper w { s.wrapper w with
      owed := some tag, channel := (s.wrapper w).channel.send .statusQuery s.now }).modPorts fun o => { o with
        station := o.station.setWrapper w (some ⟨.statusQuery, (s.wrapper w).channel.last + 1, 0, none⟩) }, .owed) := by
  have sent := send_idle (s := s.modWrapper w fun r => { r with owed := some tag }) (w := w) (by simpa using hi)
    .statusQuery 0 none
  have taken : actRestoreWrapper tag w s =
      ((s.modWrapper w fun r => { r with owed := some tag }).send w .statusQuery 0 none, .owed) :=
    (if_neg (by simp [hf])).trans (if_neg (by simp [hi]))
  rw [taken, sent]
  simp [modWrapper_eq, now]

end
end State
open State

/-- Settles O28: the request by the wrapper's state and channel, the ends of its query by what it found. -/
theorem wrapperIsRestoredByItsReport : Obligations.WrapperIsRestoredByItsReport := by
  refine ⟨fun s tag w h => ?_, fun s w number healthy loaded h hs hc => ?_⟩
  · have answered {t : State} (ht : (answer 0x30 tag (actRestoreWrapper tag w s)).pump = t) :
        exec (.restoreWrapper tag (u8 w.number)) s = .next t :=
      exec_answered (q := reqRestoreWrapper) rfl h rfl rfl (argWrapper_u8 w) ht
    refine ⟨fun hf => answered ?_, fun hf hi => answered ?_, fun hf hi => ?_⟩
    · simp [actRestoreWrapper, hf]
    · simp [actRestoreWrapper, hf, hi]
    · intro number channel sent
      exact answered (by rw [actRestoreWrapper_sends hf hi]; rfl)
  · intro r idle after
    have hafter : s.restoredState w = after := by
      cases hload : (s.wrapper w).load with
      | none | untracked => simp only [restoredState, after, r, hload]
      | track n => simp only [restoredState, after, r, hload]
    have reported : s.statusReported w number healthy loaded = s.queryEnded w (.report healthy loaded) :=
      statusReported_of (Channel.isQuery_of hs hc) healthy loaded
    rw [exec_stationStatusReport h, exec_acceptanceTimerExpiry h, reported]
    refine ⟨fun hl => ⟨by rw [queryEnded_powerUp hl]; rfl, fun ha => ?_⟩, fun tag hl ho => ⟨?_, fun ha => ?_⟩⟩
    · rw [acceptanceTimeout_query hs ha hc, queryEnded_powerUp hl]
      rfl
    · cases healthy with
      | true =>
        rw [queryEnded_healthy hl ho, hafter, if_pos rfl]
        rfl
      | false =>
        rw [queryEnded_failed hl ho fun _ => by simp, if_neg Bool.false_ne_true]
        rfl
    · rw [acceptanceTimeout_query hs ha hc, queryEnded_failed hl ho fun _ => by simp]
      rfl

end Sys2Proof.Machine

namespace Sys2Proof.Machine

theorem argFilm_fields (w : Wrapper) {metres : Nat} (h : 100 ≤ metres) (h' : metres ≤ 3000) :
    argFilm (u8 w.number ++ u16 metres) = .ok (w, metres) := by
  have hm : metres % 65536 = metres := Nat.mod_eq_of_lt (by omega)
  have hr := rdU16_u16 metres []
  rw [List.append_nil, hm] at hr
  simp [argFilm, structured, named, bind, Except.bind, hr, checkedBy, firstBad_cons, range_good h h']

namespace State
section
variable {s : State} {w : Wrapper} {n : TrackNo} {p : Pallet} {tag : Byte}

/-! ### The requests of the wrappers (R116, R122 to R125) -/

theorem answer_okay (kind : Byte) (u : State) :
    (answer kind tag (okay [] u)).pump = u.replied tag kind .ok [] := by
  rw [okay_eq, answer_now, place_pump]

/-- FILM LOADED writes the film, and takes the next step of a wrapper that waited for it. -/
theorem actFilmLoaded_eq (w : Wrapper) (metres : Nat) (s : State) : actFilmLoaded (w, metres) s =
    if (s.wrapper w).state = .wrapping then refuse .wrongState s
    else
      let u := s.modWrapper w fun r => { r with film := metres, lowFilmSent := false }
      okay [] (if (s.wrapper w).state = .paused ∧
          ((s.wrapper w).pauseCause = some .filmOut ∨ (s.wrapper w).pauseCause = some .filmBreak)
        then (u.wrapStep w).settle else u) := by
  simp only [actFilmLoaded, wrapper_modWrapper, if_true]
  by_cases hw : (s.wrapper w).state = .wrapping
  · rw [if_pos hw, if_pos hw]
  · rw [if_neg hw, if_neg hw]
    split <;> rfl

theorem holdsStopped_of (hl : (s.wrapper w).load = .track n) (hp : s.pallet n = some p) (hs : p.state = .wrapStopped) :
    s.holdsStopped w = true := by
  simp [holdsStopped, loaded_of hl hp, hs]

theorem actRestartWrap_refuses (h : (s.wrapper w).state ≠ .stopped ∨ s.holdsStopped w = false) :
    actRestartWrap w s = refuse .wrongState s := by
  refine if_neg fun ⟨hs, hh⟩ => ?_
  rcases h with h | h
  · exact h hs
  · rw [hh] at h; cases h

theorem actReleaseUnwrapped_refuses
    (h : ((s.wrapper w).state ≠ .stopped ∧ (s.wrapper w).state ≠ .faulted) ∨ s.holdsStopped w = false) :
    actReleaseUnwrapped w s = refuse .wrongState s := by
  refine if_neg fun ⟨hs, hh⟩ => ?_
  rcases h with h | h
  · exact hs.elim h.1 h.2
  · rw [hh] at h; cases h

/-- The plan of a WRAP_STOPPED record begins again. -/
theorem actRestartWrap_begins (hl : (s.wrapper w).load = .track n) (hp : s.pallet n = some p)
    (hs : p.state = .wrapStopped) (hw : (s.wrapper w).state = .stopped) :
    actRestartWrap w s = okay [] (((s.putPallet n (some { p with state := .wrapping, passesDone := 0 })).modWrapper w
      fun r => { r with sheetDone := false, cutDone := false }).wrapStep w).settle := by
  rw [← modLoaded_of hl hp fun p => { p with state := .wrapping, passesDone := 0 }]
  exact if_pos ⟨hw, holdsStopped_of hl hp hs⟩

/-- A WRAP_STOPPED record is rejected, and a STOPPED wrapper discharges it. -/
theorem actReleaseUnwrapped_rejects (hl : (s.wrapper w).load = .track n) (hp : s.pallet n = some p)
    (hs : p.state = .wrapStopped) (hw : (s.wrapper w).state = .stopped ∨ (s.wrapper w).state = .faulted) :
    actReleaseUnwrapped w s = okay [] ((s.reject n (some .wrapAbandoned)).modWrapper w fun r =>
      if r.state = .stopped then { r with state := .discharging } else r).settle := by
  have taken : ((s.wrapper w).state = .stopped ∨ (s.wrapper w).state = .faulted) ∧ s.holdsStopped w = true :=
    ⟨hw, holdsStopped_of hl hp hs⟩
  simp only [actReleaseUnwrapped, if_pos taken, loadTrack_of hl]

end
end State
open State

/-- Settles O29: each request answered by its owner, by the state of the wrapper and of the record that it holds. -/
theorem wrapperRequestsAct : Obligations.WrapperRequestsAct := by
  refine ⟨fun s tag w h => ⟨?_, ?_, fun metres hlo hhi => ?_⟩, fun s tag w h => ?_⟩
  · refine exec_answered (q := reqWrapperOffline) rfl h rfl rfl (argWrapper_u8 w) ?_
    unfold actWrapperOffline
    cases (s.wrapper w).state with
    | idle | stopped | wrapping | paused => exact answer_okay _ _
    | loading | discharging | faulted | offline => exact answer_refuse _ _
  · exact exec_answered (q := reqWrapperOnline) rfl h rfl rfl (argWrapper_u8 w)
      (answer_ite (answer_okay _ _) (answer_refuse _ _))
  · refine exec_answered (q := reqFilmLoaded) rfl h rfl rfl (argFilm_fields w hlo hhi) ?_
    rw [actFilmLoaded_eq]
    exact answer_ite (answer_refuse _ _) (answer_okay _ _)
  · have restarted {t : State} (ht : (answer 0x34 tag (actRestartWrap w s)).pump = t) :
        exec (.restartWrap tag (u8 w.number)) s = .next t :=
      exec_answered (q := reqRestartWrap) rfl h rfl rfl (argWrapper_u8 w) ht
    have released {t : State} (ht : (answer 0x35 tag (actReleaseUnwrapped w s)).pump = t) :
        exec (.releaseUnwrapped tag (u8 w.number)) s = .next t :=
      exec_answered (q := reqReleaseUnwrapped) rfl h rfl rfl (argWrapper_u8 w) ht
    refine ⟨fun hno => restarted ?_, fun hno => released ?_, fun n p hl hp hs => ⟨fun hw => restarted ?_,
      fun hw => released ?_⟩⟩
    · rw [actRestartWrap_refuses hno, answer_refuse]
    · rw [actReleaseUnwrapped_refuses hno, answer_refuse]
    · rw [actRestartWrap_begins hl hp hs hw, answer_okay]
    · rw [actReleaseUnwrapped_rejects hl hp hs hw, answer_okay]

end Sys2Proof.Machine

namespace Sys2Proof.Machine

theorem keyReading_eq_run (a b c : Bool) : keyReading a b c = .run ↔ a = true ∧ b = false ∧ c = false := by
  revert a b c; decide

theorem keyReading_eq_setup (a b c : Bool) : keyReading a b c = .setup ↔ a = false ∧ b = true ∧ c = false := by
  revert a b c; decide

theorem keyReading_eq_service (a b c : Bool) : keyReading a b c = .service ↔ a = false ∧ b = false ∧ c = true := by
  revert a b c; decide

namespace State

/-! ### The step of one wrapper leaves the other (R109) -/

section
variable {s : State} {w v : Wrapper}

@[simp] theorem wrapper_modLoaded (w v : Wrapper) (f : Pallet → Pallet) (s : State) :
    (s.modLoaded w f).wrapper v = s.wrapper v := wrapper_congr (by simp) v

theorem send_other (h : v ≠ w) (kind : PassKind) (prestretch : Nat) (film : Option Nat) (s : State) :
    (s.send w kind prestretch film).wrapper v = s.wrapper v := by
  unfold send
  split
  · simp [h]
  · rfl

theorem endAbort_other (h : v ≠ w) (s : State) : (s.endAbort w).wrapper v = s.wrapper v := by
  simp [endAbort, h]

theorem takeAbort_other (h : v ≠ w) (s : State) : (s.takeAbort w).wrapper v = s.wrapper v := by
  unfold takeAbort
  split
  · split
    · simp [send_other h, h]
    · exact endAbort_other h s
  · exact endAbort_other h s

theorem wrapStep_other (h : v ≠ w) (s : State) : (s.wrapStep w).wrapper v = s.wrapper v := by
  obtain ⟨u, hu⟩ : ∃ u, u = s.modWrapper w fun r => { r with state := .wrapping, pauseCause := none } := ⟨_, rfl⟩
  have huv : u.wrapper v = s.wrapper v := by simp [hu, h]
  simp only [wrapStep, ← hu]
  rw [← huv]
  split
  · simp [pauseWrap, h]
  · split
    · exact takeAbort_other h u
    · split
      · rfl
      · split
        · simp [h]
        · split
          · simp [stationNotice, pauseWrap, h]
          · exact send_other h _ _ _ u

/-! ### A PAUSED wrapper through the change to RUNNING (R117, R202) -/

/-- A wrapper PAUSED for another cause than HALT and ESTOP waits for its film. -/
def waitsForFilm (s : State) (w : Wrapper) : Prop :=
  (s.wrapper w).state = .paused ∧
    ((s.wrapper w).pauseCause = some .filmOut ∨ (s.wrapper w).pauseCause = some .filmBreak)

theorem waitsForFilm_congr {t : State} (h : t.wrapper w = s.wrapper w) (hs : s.waitsForFilm w) : t.waitsForFilm w := by
  unfold waitsForFilm
  rw [h]
  exact hs

/-- A wrapper that waits for its film does not resume, and the other's resumption leaves it. -/
theorem resumeWrap_waiting (hw : s.waitsForFilm w) (v : Wrapper) : (s.resumeWrap v).wrapper w = s.wrapper w := by
  unfold resumeWrap
  dsimp only
  split
  · rename_i hc
    by_cases hv : w = v
    · subst hv
      obtain ⟨-, h⟩ := hw
      rcases h with h | h <;> simp [h] at hc
    · exact wrapStep_other hv s
  · rfl

theorem resumeWraps_waiting (hw : s.waitsForFilm w) : s.resumeWraps.wrapper w = s.wrapper w := by
  have first := resumeWrap_waiting hw .a
  exact (resumeWrap_waiting (waitsForFilm_congr first hw) .b).trans first

/-- A wrapper PAUSED is as it was. -/
def StaysPaused (w : Wrapper) (s t : State) : Prop := (s.wrapper w).state = .paused → t.wrapper w = s.wrapper w

theorem StaysPaused.of_wsq {s t : State} (h : t.wsq = s.wsq) : StaysPaused w s t := fun _ => wrapper_congr h w

theorem StaysPaused.trans {s t u : State} (h : StaysPaused w s t) (h' : StaysPaused w t u) : StaysPaused w s u := by
  intro hs
  have ht := h hs
  exact (h' (by rw [ht]; exact hs)).trans ht

/-- The splitter chooses an IDLE wrapper (R89). -/
theorem staysPaused_split (w : Wrapper) (s : State) : StaysPaused w s s.split := by
  intro hs
  have one (n : TrackNo) (v : Wrapper) (hq : s.qualifies v = true) :
      (((s.startMove .feed (.wrap v) n).modZnc fun u => { u with splitter := v }).loadingBegun v n).wrapper w =
        s.wrapper w := by
    have hv : w ≠ v := by
      rintro rfl
      simp [qualifies, hs] at hq
    have moved : ((s.startMove .feed (.wrap v) n).modZnc fun u => { u with splitter := v }).wrapper w = s.wrapper w :=
      wrapper_congr (by simp) w
    simp [loadingBegun, hv, moved]
  unfold split
  split
  · rfl
  · by_cases h1 : s.qualifies s.znc.splitter.other = true
    · simp only [h1, if_true]; exact one _ _ h1
    · by_cases h2 : s.qualifies s.znc.splitter = true
      · simp only [h1, h2]; exact one _ _ h2
      · simp only [h1, h2]; rfl

/-- Only a DISCHARGING wrapper's discharge begins (R90). -/
theorem staysPaused_discharge (w v : Wrapper) (s : State) : StaysPaused w s (s.discharge v) := by
  intro hs
  unfold discharge
  split
  · rename_i n hr
    have hv : w ≠ v := by
      rintro rfl
      simp [ready, hs] at hr
    have moved : (s.startMove (.wrap v) (.out v) n).wrapper w = s.wrapper w := wrapper_congr (by simp) w
    split
    · simp [dischargeBegun, hv, moved]
    · rfl
  · rfl

/-- The start of moves leaves a PAUSED wrapper. -/
theorem staysPaused_settle (w : Wrapper) (s : State) : StaysPaused w s s.settle := by
  let early := ((s.tryMove .infeed .scan (·.state == .entering)).tryMove .scan .div1 fun _ =>
    (s.tryMove .infeed .scan (·.state == .entering)).verdictTaken).tryMove .div1 .feed (·.state == .accepted)
  have before : early.wsq = s.wsq := by simp [early]
  have after : s.settle.wsq = ((early.split.discharge .a).discharge .b).wsq := by simp [settle, startMoves, early]
  exact (((StaysPaused.of_wsq before).trans (staysPaused_split w early)).trans
    (staysPaused_discharge w .a _)).trans (staysPaused_discharge w .b _) |>.trans (.of_wsq after)

/-- The change to RUNNING leaves a wrapper that waits for its film. -/
theorem takeRunning_waiting {s : State} (hw : s.waitsForFilm w) : s.takeRunning.wrapper w = s.wrapper w := by
  have resumed : s.resumeWraps.wrapper w = s.wrapper w := resumeWraps_waiting hw
  have released : StaysPaused w s.resumeWraps s.takeRunning :=
    ((staysPaused_settle w s.resumeWraps).trans (.of_wsq (by simp))).trans
      (staysPaused_settle w s.resumeWraps.settle.testReleases)
  exact (released (by rw [resumed]; exact hw.1)).trans resumed

end

/-! ### The key switch (R200, R202) -/

section
variable {s : State} {key : KeyPosition}

theorem changeKey_same (h : key = s.lsv.key) : s.changeKey key = s := if_pos h

theorem changeKey_halts (h : key ≠ s.lsv.key) (hl : s.lsv.line = .running) (hk : key ≠ .run) : s.changeKey key =
    (((s.modLsv fun v => { v with key := key, line := .halted }).notify
      (.line .running .halted .keyLeftRun key s.lsv.chainOpen)).settle) := by
  simp [changeKey, h, writeKey, hl, hk, enterLine, modLsv]

theorem changeKey_resumes (h : key ≠ s.lsv.key) (hl : s.lsv.line = .halted) (hk : key = .run) : s.changeKey key =
    ((s.modLsv fun v => { v with key := .run, line := .running }).notify
      (.line .halted .running .keyReturned .run s.lsv.chainOpen)).takeRunning := by
  subst hk
  simp [changeKey, h, writeKey, hl, enterLine, modLsv]

theorem changeKey_writes (h : key ≠ s.lsv.key)
    (hl : s.lsv.line = .stopped ∨ (s.lsv.line = .halted ∧ key ≠ .run)) :
    s.changeKey key = s.modLsv fun v => { v with key := key } := by
  rcases hl with hl | ⟨hl, hk⟩
  · simp [changeKey, h, writeKey, hl]
  · simp [changeKey, h, writeKey, hl, hk]

end
end State
open State

/-- Settles O51: the reading by its inputs, the change by the key position and the line state. -/
theorem keyMovesTheLine : Obligations.KeyMovesTheLine := by
  refine ⟨fun a b c => ⟨keyReading_eq_run a b c, keyReading_eq_setup a b c, keyReading_eq_service a b c⟩,
    fun s a b c h ht => ?_⟩
  intro key pinned written
  have taken : exec (.keySwitchChange a b c) s = .next (pinned.changeKey key).pump :=
    congrArg Host.Outcome.next (arrival_of _ h ht)
  rw [taken]
  refine ⟨fun hk => by rw [changeKey_same (s := pinned) hk], fun hk => ⟨fun hl hr => ?_, fun hl hr => ?_, fun hl => ?_⟩⟩
  · rw [changeKey_halts (s := pinned) hk hl hr]
    rfl
  · let running := (pinned.modLsv fun v => { v with key := .run, line := .running }).notify
      (.line .halted .running .keyReturned .run s.lsv.chainOpen)
    have resumed : pinned.changeKey key = running.takeRunning := changeKey_resumes hk hl hr
    rw [resumed]
    refine ⟨_, rfl, by simp [running, pinned], ?_, fun w hp hc => ?_, ?_⟩
    · intro b hb
      cases b <;> simp [Block.same, running, pinned] at hb ⊢
    · have waits : running.waitsForFilm w :=
        waitsForFilm_congr (s := s) (wrapper_congr (by simp [running, pinned]) w) ⟨hp, hc⟩
      calc running.takeRunning.pump.wrapper w = running.takeRunning.wrapper w := wrapper_congr (by simp) w
        _ = running.wrapper w := takeRunning_waiting waits
        _ = s.wrapper w := wrapper_congr (by simp [running, pinned]) w
    · simp [running, written, hr, modLsv]
  · rw [changeKey_writes (s := pinned) hk hl]

end Sys2Proof.Machine

namespace Sys2Proof.Machine

/-! ### The entries as start-up finds them (R166, R169, R178) -/

theorem Entry.state_beq_damaged {α : Type} [DecidableEq α] (e : Entry α) :
    (e.state == .damaged) = decide (e = .damaged) := by
  cases e <;> rfl

/-- Marking an entry that the marker names, then verifying it, leaves it as found. -/
theorem Entry.verified_ite {α : Type} (named : Prop) [Decidable named] (e : Entry α) :
    (if named then .damaged else e).verified = e.asFound (decide named) := by
  by_cases h : named
  · simp [h, Entry.asFound, Entry.verified]
  · simp [h, Entry.verified_eq_asFound]

/-- The entries marked DAMAGED, over the finite ranges of the slots and the recipes. -/
theorem Store.damagedEntries_eq (d : Store) : d.damagedEntries =
    (if d.site = .damaged then [.site] else []) ++ (if d.timing = .damaged then [.timing] else []) ++
      ((List.finRange 64).filter fun i => decide (d.profiles[i].entry = .damaged)).map EntryId.profile ++
      ((List.finRange 16).filter fun i => decide (d.recipes[i] = .damaged)).map EntryId.recipe := by
  simp only [damagedEntries, Slot.all_eq, Recipe.all_eq, Entry.state_eq_damaged, Entry.state_beq_damaged]

namespace Store
variable (d : Store)

/-- The store with the entry that the marker names marked DAMAGED, and the marker cleared. -/
def marked : Store :=
  match d.marker with
  | some id => { d.mark id with marker := none }
  | none => d

theorem marked_site : d.marked.site = if d.marker = some .site then .damaged else d.site := by
  unfold marked
  cases d.marker with
  | none => rfl
  | some id => cases id <;> rfl

theorem marked_timing : d.marked.timing = if d.marker = some .timing then .damaged else d.timing := by
  unfold marked
  cases d.marker with
  | none => rfl
  | some id => cases id <;> rfl

theorem marked_profile (i : Fin 64) : d.marked.profiles[i] =
    { d.profiles[i] with entry := if d.marker = some (.profile i) then .damaged else d.profiles[i].entry } := by
  unfold marked
  cases d.marker with
  | none => rfl
  | some id =>
    cases id with
    | site | timing | recipe n => rfl
    | profile k =>
      by_cases h : k = i
      · subst h; simp [mark]
      · have hv : k.val ≠ i.val := fun e => h (Fin.ext e)
        simp [mark, h, Vector.getElem_set_ne, hv]

theorem marked_recipe (i : Fin 16) : d.marked.recipes[i] =
    if d.marker = some (.recipe i) then .damaged else d.recipes[i] := by
  unfold marked
  cases d.marker with
  | none => rfl
  | some id =>
    cases id with
    | site | timing | profile k => rfl
    | recipe k =>
      by_cases h : k = i
      · subst h; simp [mark]
      · have hv : k.val ≠ i.val := fun e => h (Fin.ext e)
        simp [mark, h, Vector.getElem_set_ne, hv]

theorem marked_rest : d.marked.marker = none ∧ d.marked.copies = d.copies ∧ d.marked.started = d.started := by
  unfold marked
  cases h : d.marker with
  | none => exact ⟨h, rfl, rfl⟩
  | some id => cases id <;> exact ⟨rfl, rfl, rfl⟩

/-- The store with every entry as found, before the keys of the DAMAGED slots are settled. -/
def found : Store :=
  { d.marked with
    site := d.marked.site.verified
    timing := d.marked.timing.verified
    profiles := Slot.all.foldl (fun (v : Vector Slot 64) (i : Fin 64) =>
      v.set i { v[i] with entry := v[i].entry.verified }) d.marked.profiles
    recipes := Recipe.all.foldl (fun (v : Vector (Entry Recipe) 16) (i : Fin 16) => v.set i v[i].verified)
      d.marked.recipes }

theorem found_profile (i : Fin 64) : d.found.profiles[i] =
    { d.profiles[i] with entry := d.profiles[i].entry.asFound (decide (d.marker = some (.profile i))) } := by
  have walked := getElem_foldl_set (fun _ (x : Slot) => { x with entry := x.entry.verified }) Slot.all Slot.all_nodup
    d.marked.profiles i
  rw [if_pos (Slot.mem_all i), marked_profile, Entry.verified_ite] at walked
  exact walked

theorem verify_site : d.verify.site = d.site.asFound (decide (d.marker = some .site)) := by
  rw [← Entry.verified_ite, ← marked_site]
  rfl

theorem verify_timing : d.verify.timing = d.timing.asFound (decide (d.marker = some .timing)) := by
  rw [← Entry.verified_ite, ← marked_timing]
  rfl

theorem found_recipe (i : Fin 16) :
    d.found.recipes[i] = d.recipes[i].asFound (decide (d.marker = some (.recipe i))) := by
  have walked := getElem_foldl_set (fun _ (x : Entry Recipe) => x.verified) Recipe.all Recipe.all_nodup
    d.marked.recipes i
  rw [if_pos (Recipe.mem_all i), marked_recipe, Entry.verified_ite] at walked
  exact walked

/-- The verification settles, over the entries as found, the keys of the DAMAGED slots and the values in force. -/
theorem verify_eq : d.verify = { d.found with
    profiles := Slot.all.foldl (fun (v : Vector Slot 64) (i : Fin 64) =>
      if d.found.profiles[i].entry.state = .damaged then v.set i { v[i] with key := d.found.keptKey i } else v)
      d.found.profiles
    inForce := match d.found.timing with
      | .valid v _ => v
      | _ => TimingValues.defaults } := rfl

theorem verify_profile (i : Fin 64) : d.verify.profiles[i] =
    if d.found.profiles[i].entry = .damaged then { d.found.profiles[i] with key := d.found.keptKey i }
    else d.found.profiles[i] := by
  have each : (fun (v : Vector Slot 64) (i : Fin 64) =>
      if d.found.profiles[i].entry.state = .damaged then v.set i { v[i] with key := d.found.keptKey i } else v) =
      fun v i => v.set i
        (if d.found.profiles[i].entry = .damaged then { v[i] with key := d.found.keptKey i } else v[i]) := by
    funext v i
    by_cases h : d.found.profiles[i].entry = .damaged
    · rw [if_pos h, if_pos ((Entry.state_eq_damaged _).mpr h)]
    · rw [if_neg h, if_neg fun h' => h ((Entry.state_eq_damaged _).mp h')]
      exact (Vector.set_getElem_self i.isLt).symm
  have walked := getElem_foldl_set (fun i (x : Slot) =>
    if d.found.profiles[i].entry = .damaged then { x with key := d.found.keptKey i } else x) Slot.all Slot.all_nodup
    d.found.profiles i
  rw [if_pos (Slot.mem_all i)] at walked
  rw [verify_eq, ← walked]
  simp only [each]

theorem verify_entry (i : Fin 64) : d.verify.profiles[i].entry =
    d.profiles[i].entry.asFound (decide (d.marker = some (.profile i))) := by
  rw [verify_profile, found_profile]
  split <;> rfl

theorem found_key (i : Fin 64) : d.found.profiles[i].key = d.profiles[i].key := by rw [found_profile]

theorem found_entry (i : Fin 64) : d.found.profiles[i].entry = d.verify.profiles[i].entry := by
  rw [verify_entry, found_profile]

/-- The values in force are those of a VALID timing entry, else the defaults (R169). -/
theorem verify_inForce : d.verify.inForce = (match d.verify.timing with
    | .valid t _ => t
    | _ => ⟨3, 8, 8, 15, 12, 60, 10, 90⟩) := by
  rw [verify_eq]
  dsimp only
  cases d.found.timing <;> rfl

/-- A slot that is not DAMAGED keeps its key. -/
theorem verify_key_not_damaged {i : Fin 64} (h : d.verify.profiles[i].entry ≠ .damaged) :
    d.verify.profiles[i].key = d.profiles[i].key := by
  rw [← found_entry] at h
  rw [verify_profile, if_neg h, found_key]

theorem verify_key_damaged {i : Fin 64} (h : d.verify.profiles[i].entry = .damaged) :
    d.verify.profiles[i].key = d.found.keptKey i := by
  rw [← found_entry] at h
  rw [verify_profile, if_pos h]

theorem keptKey_none {i : Fin 64} (h : d.profiles[i].key = none) : d.keptKey i = none := by
  simp only [keptKey, h]

/-- The key that a DAMAGED slot keeps: in its range, held by no VALID slot, read by no lower DAMAGED one (R178). -/
theorem keptKey_some {i : Fin 64} {k : Nat} (h : d.profiles[i].key = some k) : d.keptKey i =
    if 1 ≤ k ∧ k ≤ 65535 ∧ ∀ j : Fin 64, d.profiles[j].key = some k →
      d.profiles[j].entry.state ≠ .valid ∧ (d.profiles[j].entry = .damaged → i.val ≤ j.val) then some k else none := by
  have noClash : (Slot.all.any fun j => d.profiles[j].key == some k &&
      (d.profiles[j].entry.state == .valid || (d.profiles[j].entry.state == .damaged && decide (j.val < i.val)))) =
        false ↔
      ∀ j : Fin 64, d.profiles[j].key = some k →
        d.profiles[j].entry.state ≠ .valid ∧ (d.profiles[j].entry = .damaged → i.val ≤ j.val) := by
    simp [Slot.mem_all, Entry.state_eq_damaged]
  simp only [keptKey, h, noClash]

end Store
end Sys2Proof.Machine

namespace Sys2Proof.Machine

/-- With no reply and no query to send, the transmitter takes the head of the notice queue (R196). -/
theorem Link.choose_notice {l : Link} (hr : l.replies = []) (hq : l.queries = []) (hs : l.sending = none) :
    l.choose.sending = l.notices.head?.map .notice ∧ l.choose.notices = l.notices.tail := by
  cases hn : l.notices with
  | nil => simp [choose, hr, hq, hn, hs]
  | cons a rest => simp [choose, hr, hq, hn]

namespace State
section
variable {s : State} {w v : Wrapper}

/-! ### The status queries of start-up (R111, R128) -/

/-- On an idle channel a command is sent: the wrapper's record and its station's port. -/
theorem send_same (h : (s.wrapper w).channel.state = .idle) (kind : PassKind) (prestretch : Nat) (film : Option Nat) :
    (s.send w kind prestretch film).wrapper w =
      { s.wrapper w with channel := (s.wrapper w).channel.send kind s.now } ∧
    (s.send w kind prestretch film).ports.station.wrapper w =
      some ⟨kind, (s.wrapper w).channel.last + 1, prestretch, film⟩ := by
  rw [send_idle h]
  simp

theorem send_other_port (h : v ≠ w) (kind : PassKind) (prestretch : Nat) (film : Option Nat) (s : State) :
    (s.send w kind prestretch film).ports.station.wrapper v = s.ports.station.wrapper v := by
  unfold send
  split
  · simp [h]
  · rfl

/-- The query sent to both stations. -/
def askStations (s : State) : State := (s.send .a .statusQuery 0 none).send .b .statusQuery 0 none

theorem askStations_wrapper (h : ∀ w, (s.wrapper w).channel.state = .idle) (w : Wrapper) :
    s.askStations.wrapper w =
      { s.wrapper w with channel := (s.wrapper w).channel.send .statusQuery s.now } ∧
    s.askStations.ports.station.wrapper w = some ⟨.statusQuery, (s.wrapper w).channel.last + 1, 0, none⟩ := by
  have hb : (s.send .a .statusQuery 0 none).wrapper .b = s.wrapper .b := send_other (by decide) _ _ _ s
  have hnow : (s.send .a .statusQuery 0 none).now = s.now := by simp [now]
  unfold askStations
  cases w with
  | a => rw [send_other (by decide), send_other_port (by decide)]; exact send_same (h .a) _ _ _
  | b =>
    have sent := send_same (s := s.send .a .statusQuery 0 none) (w := .b) (by rw [hb]; exact h .b) .statusQuery 0 none
    rw [hb, hnow] at sent
    exact sent

/-! ### The begin of power-up (R178, R208, R210) -/

/-- The verified store's DAMAGED entries told. -/
def verified (s : State) : State :=
  s.sdu.verify.damagedEntries.foldl (fun s id => s.storeNotice .damaged id none) (s.modSdu Store.verify)

@[simp] theorem verified_frame (s : State) :
    s.verified.wsq = s.wsq ∧ s.verified.lsv = s.lsv ∧ s.verified.sdu = s.sdu.verify := by
  simp [verified]

theorem beginPowerUp_eq (s : State) : s.beginPowerUp = s.verified.askStations.pump := rfl

/-- Power-up asks each idle station for its status. -/
theorem beginPowerUp_asks (h : ∀ w, (s.wrapper w).channel.state = .idle) (w : Wrapper) :
    s.beginPowerUp.wrapper w =
      { s.wrapper w with channel := (s.wrapper w).channel.send .statusQuery s.now } ∧
    s.beginPowerUp.ports.station.wrapper w = some ⟨.statusQuery, (s.wrapper w).channel.last + 1, 0, none⟩ := by
  have hw (w : Wrapper) : s.verified.wrapper w = s.wrapper w := wrapper_congr (by simp) w
  have hnow : s.verified.now = s.now := by simp [now]
  have asked := askStations_wrapper (s := s.verified) (fun w => by rw [hw]; exact h w) w
  obtain ⟨hwsq, hports⟩ : s.beginPowerUp.wsq = s.verified.askStations.wsq ∧
      s.beginPowerUp.ports = s.verified.askStations.ports := by simp [beginPowerUp_eq]
  rw [hw, hnow] at asked
  rw [wrapper_congr hwsq, hports]
  exact asked

/-- A free transmitter chooses. -/
theorem pump_free (hs : s.lku.sending = none) (hp : s.lsv.resetPending = false) (hr : s.inReset = false) :
    s.pump = s.modLku Link.choose := by
  simp [pump, hs, drained, hp, hr]

/-- The STORE notices DAMAGED that a verified store makes (R178). -/
def damagedTold (d : Store) (time : Stamp) (gap : Bool) : List Notice :=
  (d.damagedEntries.mapIdx fun i id =>
    (⟨.store .damaged id (d.keyOf id) none 0 0, time, gap && i == 0⟩ : Notice)).take 32

/-- From a link with nothing to send the first of the notices is taken by the transmitter, the others wait. -/
theorem beginPowerUp_told (hn : s.lku.notices = []) (hr : s.lku.replies = []) (hq : s.lku.queries = [])
    (hs : s.lku.sending = none) (hp : s.lsv.resetPending = false) (hi : s.inReset = false) :
    s.beginPowerUp.lku.sending = (damagedTold s.sdu.verify s.now s.lku.gap).head?.map .notice ∧
    s.beginPowerUp.lku.notices = (damagedTold s.sdu.verify s.now s.lku.gap).tail := by
  obtain ⟨hns, hrs, hqs, hss, -, -⟩ := foldl_storeNotice_damaged s.sdu.verify.damagedEntries (s.modSdu Store.verify)
  have hlku : s.verified.askStations.lku = s.verified.lku := by simp [askStations]
  have hlsv : s.verified.askStations.lsv = s.lsv := by simp [askStations]
  have told : s.verified.lku.notices = damagedTold s.sdu.verify s.now s.lku.gap :=
    hns.trans (by simp [hn, damagedTold, now])
  have chosen := Link.choose_notice (l := s.verified.lku) (hrs.trans hr) (hqs.trans hq) (hss.trans hs)
  rw [beginPowerUp_eq, pump_free (by rw [hlku]; exact hss.trans hs) (by rw [hlsv]; exact hp)
    (by rw [inReset, hlsv]; exact hi), modLku_lku, hlku, ← told]
  exact chosen

/-! ### The supply and the reset input (R208) -/

@[simp] theorem resetTo_lsv (kind : ResetKind) (supply input : Bool) (s : State) :
    (s.resetTo kind supply input).lsv = Supervisor.reset kind supply input := rfl

theorem powerOn_lsv (s : State) : s.powerOn.lsv = Supervisor.reset .powerOn true s.lsv.resetInput := by
  unfold powerOn
  dsimp only
  split
  · simp
  · simp

theorem assertReset_lsv (hi : s.lsv.resetInput = false) (hs : s.lsv.supply = true) :
    s.assertReset.lsv = Supervisor.reset .resetInput true true := by
  simp [assertReset, hi, hs]

/-- The release of the reset input with the supply in its range begins power-up. -/
theorem releaseReset_begins (hi : s.lsv.resetInput = true) (hs : s.lsv.supply = true) :
    s.releaseReset = (s.modLsv fun v => { v with resetInput := false }).beginPowerUp := by
  simp [releaseReset, hi, hs]

theorem requestedReset_lsv (hd : s.drained = true) (hs : s.lku.sending = none) (hr : s.inReset = false) :
    s.requestedReset.lsv = Supervisor.reset .resetRequest s.lsv.supply s.lsv.resetInput := by
  simp [requestedReset, hd, hs, hr]

end
end State
open State

/-- Settles O8: the resets by what they write in the supervisor, the release of the reset input by what power-up begins
with, the verification entry by entry. -/
theorem resetIsHeldAndEnds : Obligations.ResetIsHeldAndEnds := by
  refine ⟨fun s => ⟨⟨_, rfl, ?_⟩, ⟨_, rfl, rfl, rfl⟩, fun hi hs => ⟨_, rfl, ?_⟩, fun hi hs => ⟨_, rfl, ?_⟩,
    fun hd hs hr => ⟨_, rfl, ?_⟩⟩, fun s hi hs hidle => ⟨_, rfl, ?_⟩, Store.damagedEntries_eq, fun d => ?_⟩
  · rw [inReset, powerOn_lsv]
    exact ⟨rfl, rfl, rfl⟩
  · rw [inReset, assertReset_lsv hi hs]
    exact ⟨rfl, rfl, rfl⟩
  · rw [releaseReset_begins hi hs, inReset]
    simp [hs]
  · have on : s.lsv.supply = true ∧ s.lsv.resetInput = false := by simpa [inReset] using hr
    rw [inReset, requestedReset_lsv hd hs hr, on.1, on.2]
    exact ⟨rfl, rfl⟩
  · obtain ⟨u, hu⟩ : ∃ u, u = s.modLsv fun v => { v with resetInput := false } := ⟨_, rfl⟩
    have hlsv : u.lsv = { s.lsv with resetInput := false } := by rw [hu]; rfl
    have hsdu : u.sdu = s.sdu := by rw [hu]; rfl
    have hlku : u.lku = s.lku := by rw [hu]; rfl
    have hnow : u.now = s.now := by rw [hu]; rfl
    have hw (w : Wrapper) : u.wrapper w = s.wrapper w := by rw [hu]; rfl
    rw [releaseReset_begins hi hs, ← hu]
    refine ⟨by simp [hlsv], by simp [beginPowerUp_eq, askStations, hsdu], fun w => ?_, fun b hb => ?_, ?_⟩
    · have asked := beginPowerUp_asks (s := u) (fun w => by rw [hw]; exact hidle w) w
      rwa [hw, hnow] at asked
    · cases b <;> simp [Block.same, hu] at hb ⊢
    · intro told hn hr hq hsend hp
      have first := beginPowerUp_told (s := u) (by rw [hlku, hn]) (by rw [hlku, hr]) (by rw [hlku, hq])
        (by rw [hlku, hsend]) (by rw [hlsv]; exact hp) (by simp [inReset, hlsv, hs])
      rw [hsdu, hnow, hlku] at first
      exact first
  · obtain ⟨hmarker, hcopies, hstarted⟩ := d.marked_rest
    obtain ⟨hhost, hreservation, htimer⟩ := d.verify_slots
    refine ⟨d.verify_site, d.verify_timing, d.verify_entry, d.found_recipe, fun i => d.verify_key_not_damaged,
      fun i hd hk => ?_, fun i k hd hk => ?_, d.verify_inForce, hmarker, hcopies, hhost, hreservation,
      htimer, hstarted⟩
    · rw [d.verify_key_damaged hd, Store.keptKey_none _ ((d.found_key i).trans hk)]
    · rw [d.verify_key_damaged hd, Store.keptKey_some _ ((d.found_key i).trans hk)]
      simp only [Store.found_key, Store.found_entry]

end Sys2Proof.Machine

namespace Sys2Proof.Machine

namespace State

/-! ### The second (R206; log 7) -/

theorem zone_tickZones (s : State) (z : Zone) :
    s.tickZones.zone z = { s.zone z with moveTimer := (s.zone z).moveTimer.tick } := by
  rw [tickZones, zone_foldl_modZone Zone.all zone_all_nodup, if_pos (zone_mem_all z)]

/-- The move timers are the zones' alone. -/
theorem tickZones_znc (s : State) : ∃ zones, s.tickZones.znc = { s.znc with zones := zones } :=
  foldl_modZone_znc Zone.all _ s

theorem lane_tickLanes (s : State) (n : Lane) :
    s.tickLanes.lane n = { s.lane n with minute := (s.lane n).minute.tick } := by
  rw [tickLanes, lane_foldl_modLane Lane.all lane_all_nodup, if_pos (lane_mem_all n)]

/-- The seconds of the timers outside the zones and the lanes. -/
def tickUnits (s : State) : State := { s with
  trt := { s.trt with tagTimer := s.trt.tagTimer.tick }
  cku := { s.cku with
    weightTimer := s.cku.weightTimer.tick, scanTimer := s.cku.scanTimer.tick, holdTimer := s.cku.holdTimer.tick }
  znc := { s.znc with laneWait := s.znc.laneWait.tick }
  wsq := ⟨tickWrapper s.wsq.fst, tickWrapper s.wsq.snd⟩
  lbu := { s.lbu with
    applyTimers := ⟨s.lbu.applyTimers.fst.tick, s.lbu.applyTimers.snd.tick⟩, readTimer := s.lbu.readTimer.tick } }

theorem tickTimers_eq (s : State) : s.tickTimers = s.tickUnits.tickZones.tickLanes := rfl

theorem wrapper_tickUnits (s : State) (w : Wrapper) : s.tickUnits.wrapper w = tickWrapper (s.wrapper w) := by
  cases w <;> rfl

/-- The clock and the timers of one second, block by block. -/
theorem tick_eq (s : State) :
    s.tick = (s.modLsv fun v => { v with clock := v.clock + 1 }).tickUnits.tickZones.tickLanes := rfl

end State
open State

/-- Settles O10: the timers outside the zones and the lanes by their one update, the others by the walks over the zones and
the lanes. -/
theorem clockTickCounts : Obligations.ClockTickCounts := by
  intro s hr
  let u := (s.modLsv fun v => { v with clock := v.clock + 1 }).tickUnits
  have run : exec .clockTick s = .next u.tickZones.tickLanes := by
    show Host.Outcome.next (if s.inReset then s else s.tick) = _
    rw [hr, tick_eq]
    rfl
  obtain ⟨zones, hzones⟩ := tickZones_znc u
  have hznc : u.tickZones.tickLanes.znc = { u.znc with zones := zones } := by simp [hzones]
  refine ⟨_, run, by simp [u, tickUnits], by simp [u, tickUnits], by simp [u, tickUnits], fun z => ?zone,
    by rw [hznc]; rfl, by rw [hznc]; rfl, by rw [hznc]; rfl, by rw [hznc]; rfl, by rw [hznc]; rfl, by rw [hznc]; rfl,
    by rw [hznc]; rfl, by rw [hznc]; rfl, fun w => ?wrapper, by simp [u, tickUnits], fun n => ?lane, fun b hb => ?frame⟩
  case zone =>
    have hz : u.tickZones.tickLanes.zone z = u.tickZones.zone z := zone_congr (by simp) z
    rw [hz, zone_tickZones]
    rfl
  case wrapper =>
    have hw : u.tickZones.tickLanes.wrapper w = u.wrapper w := wrapper_congr (by simp) w
    rw [hw, wrapper_tickUnits]
    rfl
  case lane =>
    have hl : u.tickZones.lane n = u.lane n := lane_congr (by simp) n
    rw [lane_tickLanes, hl]
    rfl
  case frame => cases b <;> simp [Block.same, u, tickUnits] at hb ⊢

end Sys2Proof.Machine

namespace Sys2Proof.Machine

namespace State

/-! ### Outputs that do not go on (R87, R100, R105) -/

/-- The supervisor stands, and unless the line is RUNNING no drive, no gate and no infeed-ready output has gone on. -/
structure KeepsOff (s t : State) : Prop where
  lsv : t.lsv = s.lsv
  drive : s.lsv.line ≠ .running → ∀ z, (t.zone z).drive = true → (s.zone z).drive = true
  gate : s.lsv.line ≠ .running → ∀ n : Lane, t.znc.gates[n] = true → s.znc.gates[n] = true
  infeed : s.lsv.line ≠ .running → t.znc.infeedReady = true → s.znc.infeedReady = true

namespace KeepsOff
variable {s t u : State}

theorem refl (s : State) : KeepsOff s s := ⟨rfl, fun _ _ h => h, fun _ _ h => h, fun _ h => h⟩

theorem trans (h : KeepsOff s t) (h' : KeepsOff t u) : KeepsOff s u where
  lsv := h'.lsv.trans h.lsv
  drive hl z hz := h.drive hl z (h'.drive (by rwa [h.lsv]) z hz)
  gate hl n hn := h.gate hl n (h'.gate (by rwa [h.lsv]) n hn)
  infeed hl hi := h.infeed hl (h'.infeed (by rwa [h.lsv]) hi)

/-- The other blocks drive no output. -/
theorem of_blocks (hl : t.lsv = s.lsv := by simp) (hz : t.znc = s.znc := by simp) : KeepsOff s t where
  lsv := hl
  drive _ z h := by rwa [zone_congr hz] at h
  gate _ _ h := by rwa [hz] at h
  infeed _ h := by rwa [hz] at h

/-- While the line is RUNNING an output may go on. -/
theorem of_running (hr : s.lsv.line = .running) (hl : t.lsv = s.lsv) : KeepsOff s t :=
  ⟨hl, fun h => absurd hr h, fun h => absurd hr h, fun h => absurd hr h⟩

/-- An operation that changes nothing unless the line is RUNNING. -/
theorem of_idle (hl : t.lsv = s.lsv) (h : s.lsv.line ≠ .running → t = s) : KeepsOff s t := by
  by_cases hr : s.lsv.line = .running
  · exact of_running hr hl
  · rw [h hr]; exact refl s

/-- A change of the other blocks after it. -/
theorem then_blocks (h : KeepsOff s t) (hl : u.lsv = t.lsv := by simp) (hz : u.znc = t.znc := by simp) :
    KeepsOff s u :=
  h.trans (of_blocks hl hz)

theorem modPallet {n : TrackNo} {f : Pallet → Pallet} (h : KeepsOff s t) : KeepsOff s (t.modPallet n f) :=
  h.then_blocks

theorem modWrapper {w : Wrapper} {f : WrapperRecord → WrapperRecord} (h : KeepsOff s t) :
    KeepsOff s (t.modWrapper w f) :=
  h.then_blocks rfl rfl

theorem modTrt {f : Track → Track} (h : KeepsOff s t) : KeepsOff s (t.modTrt f) := h.then_blocks rfl rfl

theorem modCku {f : CheckUnit → CheckUnit} (h : KeepsOff s t) : KeepsOff s (t.modCku f) := h.then_blocks rfl rfl

theorem enter {n : TrackNo} {st : PalletState} {event : PalletEvent} (h : KeepsOff s t) :
    KeepsOff s (t.enter n st event) := h.then_blocks

theorem modLane {n : Lane} {f : LaneRecord → LaneRecord} (h : KeepsOff s t) : KeepsOff s (t.modLane n f) :=
  h.then_blocks rfl rfl

theorem notify {e : Event} (h : KeepsOff s t) : KeepsOff s (t.notify e) := h.then_blocks

/-- A change of a zone record that does not put its drive on. -/
theorem modZone {z : Zone} {f : ZoneRecord → ZoneRecord} (h : KeepsOff s t)
    (hf : ∀ r, (f r).drive = true → r.drive = true) : KeepsOff s (t.modZone z f) := by
  refine h.trans ⟨rfl, fun _ y hy => ?_, fun _ _ hn => hn, fun _ hi => hi⟩
  rw [zone_modZone] at hy
  split at hy
  · rename_i hz; subst hz; exact hf _ hy
  · exact hy

/-- A change of the zone unit that leaves the zones and the infeed-ready output, and opens no gate. -/
theorem modZnc {f : ZoneUnit → ZoneUnit} (h : KeepsOff s t) (hz : ∀ u, (f u).zones = u.zones)
    (hg : ∀ (u : ZoneUnit) (n : Lane), (f u).gates[n] = true → u.gates[n] = true)
    (hi : ∀ u, (f u).infeedReady = u.infeedReady) : KeepsOff s (t.modZnc f) :=
  h.trans ⟨rfl, fun _ z hd => by simpa [State.zone, hz] using hd, fun _ n hn => hg _ n hn,
    fun _ hr => by simpa [hi] using hr⟩

theorem freeZone {z : Zone} (h : KeepsOff s t) : KeepsOff s (t.freeZone z) := h.modZone fun _ hd => by cases hd

theorem untrackZone {z : Zone} (h : KeepsOff s t) : KeepsOff s (t.untrackZone z) := h.modZone fun _ hd => by cases hd

theorem laneWait {timer : Timer} (h : KeepsOff s t) : KeepsOff s (t.modZnc fun u => { u with laneWait := timer }) :=
  h.modZnc (fun _ => rfl) (fun _ _ hn => hn) (fun _ => rfl)

theorem route {route : Option Lane} (h : KeepsOff s t) : KeepsOff s (t.modZnc fun u => { u with route := route }) :=
  h.modZnc (fun _ => rfl) (fun _ _ hn => hn) (fun _ => rfl)

theorem reject {n : TrackNo} {reason : Option Reason} (h : KeepsOff s t) : KeepsOff s (t.reject n reason) :=
  h.then_blocks

theorem foldl {α : Type} {f : State → α → State} (h : ∀ s a, KeepsOff s (f s a)) (l : List α) (s : State) :
    KeepsOff s (l.foldl f s) := by
  induction l generalizing s with
  | nil => exact refl s
  | cons a l ih => exact (h s a).trans (ih _)

theorem ite {c : Prop} [Decidable c] (ht : c → KeepsOff s t) (hu : ¬ c → KeepsOff s u) :
    KeepsOff s (if c then t else u) := by
  split
  · exact ht ‹_›
  · exact hu ‹_›

end KeepsOff

/-! ### Nothing starts unless the line is RUNNING (R81, R97) -/

section
variable {s : State}

theorem candidate_not_running (h : s.lsv.line ≠ .running) (src : Zone) (ok : Pallet → Bool) :
    s.candidate src ok = none :=
  Option.eq_none_iff_forall_not_mem.mpr fun _ hn => h (candidate_eq_some.mp hn).2.1

theorem isRunning_not_running (h : s.lsv.line ≠ .running) : s.isRunning = false := by
  simpa [isRunning] using h

theorem tryMove_not_running (h : s.lsv.line ≠ .running) (src dst : Zone) (ok : Pallet → Bool) :
    s.tryMove src dst ok = s := by
  simp [tryMove, candidate_not_running h]

theorem discharge_not_running (h : s.lsv.line ≠ .running) (w : Wrapper) : s.discharge w = s := by
  unfold discharge
  cases s.ready w <;> simp [isRunning_not_running h]

theorem grantMerge_not_running (h : s.lsv.line ≠ .running) : s.grantMerge = s := by
  simp [grantMerge, outfeedReady, candidate_not_running h]

theorem moveToGate_not_running (h : s.lsv.line ≠ .running) : s.moveToGate = s := by
  unfold moveToGate
  rw [candidate_not_running h]
  cases s.znc.route <;> rfl

theorem startMoves_not_running (h : s.lsv.line ≠ .running) : s.startMoves = s := by
  have hsplit : s.split = s := by simp [split, candidate_not_running h]
  have hsort : s.moveToSort = s := by simp [moveToSort, candidate_not_running h]
  simp only [startMoves, grantSpur, tryMove_not_running h, hsplit, discharge_not_running h, grantMerge_not_running h,
    hsort, moveToGate_not_running h]

/-- The infeed-ready output, tested, is off unless the line is RUNNING (R87). -/
theorem settle_not_running (h : s.lsv.line ≠ .running) :
    s.settle = s.modZnc fun u => { u with infeedReady := false } := by
  simp [settle, startMoves_not_running h, testInfeed, infeedCondition, isRunning_not_running h]

theorem releaseTest_not_running (h : s.lsv.line ≠ .running) (n : Lane) : s.releaseTest n = none := by
  refine Option.eq_none_iff_forall_not_mem.mpr fun t ht => ?_
  simp only [releaseTest, h, and_false, if_false] at ht
  repeat' split at ht
  all_goals cases ht

theorem testRelease_not_running (h : s.lsv.line ≠ .running) (n : Lane) : s.testRelease n = s := by
  simp [testRelease, releaseTest_not_running h]

end

theorem keepsOff_settle (s : State) : KeepsOff s s.settle := by
  by_cases h : s.lsv.line = .running
  · exact .of_running h (by simp)
  · rw [settle_not_running h]
    exact ⟨rfl, fun _ _ hz => hz, fun _ _ hn => hn, fun _ hi => by cases hi⟩

theorem keepsOff_testRelease (n : Lane) (s : State) : KeepsOff s (s.testRelease n) :=
  .of_idle (by simp) fun h => testRelease_not_running h n

/-! ### Zones (R80 to R84, R102) -/

theorem keepsOff_occupy (z : Zone) (n : TrackNo) (s : State) : KeepsOff s (s.occupy z n) :=
  .modPallet (.modZone (.refl s) fun _ h => by cases h)

theorem keepsOff_eyeInFree (z : Zone) (s : State) : KeepsOff s (s.eyeInFree z) := by
  refine .ite (fun _ => ?_) fun _ => ?_
  · exact .modTrt (.modZone (.refl s) fun _ h => by cases h)
  · exact .notify (.untrackZone (.refl s))

theorem keepsOff_vacate (z : Zone) (s : State) : KeepsOff s (s.vacate z) :=
  (KeepsOff.refl s).freeZone.trans (.ite (fun _ => keepsOff_eyeInFree z _) fun _ => .refl _)

theorem keepsOff_closeGate (n : Lane) (s : State) : KeepsOff s (s.closeGate n) := by
  refine .modZnc (.refl s) (fun _ => rfl) (fun u m h => ?_) (fun _ => rfl)
  change (u.gates.set n false)[m.val] = true at h
  rw [Vector.getElem_set] at h
  split at h
  · cases h
  · exact h

theorem keepsOff_routeDiv2 (s : State) : KeepsOff s s.routeDiv2 := by
  unfold routeDiv2
  split
  · exact .refl s
  · split
    · exact .refl s
    · refine .ite (fun _ => .ite (fun _ => ?orphaned) fun _ => ?routed) fun _ => .refl s
      case orphaned => exact .reject (.laneWait (.refl s))
      case routed =>
        split
        · exact .ite (fun _ => .laneWait (.refl s)) fun _ => .refl s
        · exact .refl s

theorem keepsOff_handOn (dst : Zone) (n : TrackNo) (s : State) : KeepsOff s (s.handOn dst n) := by
  cases dst with
  | scan => exact .of_blocks (by simp [handOn]) (by simp [handOn])
  | div1 => exact .of_blocks (by simp [handOn]) (by simp [handOn])
  | wrap w => exact .of_blocks (by simp [handOn]) (by simp [handOn])
  | out w => exact .of_blocks (by simp [handOn]) (by simp [handOn])
  | label => exact .of_blocks (by simp [handOn]) (by simp [handOn])
  | div2 => exact keepsOff_routeDiv2 s
  | gate g => exact keepsOff_testRelease g s
  | _ => exact .refl s

theorem keepsOff_arrive (src dst : Zone) (n : TrackNo) (s : State) : KeepsOff s (s.arrive src dst n) :=
  ((keepsOff_vacate src s).trans (keepsOff_occupy dst n _)).trans (keepsOff_handOn dst n _)

theorem keepsOff_tellUndone (src dst : Zone) (s : State) : KeepsOff s (s.tellUndone src dst) := by
  unfold tellUndone
  split
  · exact .of_blocks
  · exact .of_blocks
  · exact (KeepsOff.refl s).route.trans (keepsOff_routeDiv2 _)
  · exact keepsOff_routeDiv2 s
  · exact .route (.refl s)
  · exact .refl s

theorem keepsOff_eye (z : Zone) (made : Bool) (s : State) :
    KeepsOff s (s.modZone z fun r => { r with eye := made }) := .modZone (.refl s) fun _ h => h

theorem keepsOff_eyeIsMade (z : Zone) (s : State) : KeepsOff s (s.eyeIsMade z) := by
  refine .ite (fun _ => .refl s) fun _ => (keepsOff_eye z true s).trans ?_
  split
  · exact keepsOff_eyeInFree z _
  · exact .ite (fun _ => .refl _) fun _ => keepsOff_arrive _ z _ _
  · exact .refl _

theorem keepsOff_eyeIsCleared (z : Zone) (s : State) : KeepsOff s (s.eyeIsCleared z) := by
  refine .ite (fun _ => (keepsOff_eye z false s).trans ?_) fun _ => .refl s
  split
  · exact .modTrt (.freeZone (.refl _))
  · exact .ite (fun _ => (KeepsOff.refl _).freeZone.trans (keepsOff_closeGate _ _)) fun _ => .refl _
  · exact .refl _

theorem keepsOff_holdPair (st : ZoneState) (src dst : Zone) (s : State) : KeepsOff s (s.holdPair st src dst) := by
  unfold holdPair
  exact .modZone (.modZone (.refl s) fun _ h => by cases h) fun _ h => by cases h

theorem keepsOff_moveTimeout (src : Zone) (s : State) : KeepsOff s (s.moveTimeout src) := by
  unfold moveTimeout
  dsimp only
  split
  · exact .ite (fun _ => .notify (keepsOff_holdPair .jammed src _ s)) fun _ => .refl s
  · exact .refl s

theorem keepsOff_departureTimeout (n : Lane) (s : State) : KeepsOff s (s.departureTimeout n) :=
  .ite (fun _ => .notify ((KeepsOff.refl s).untrackZone.trans (keepsOff_closeGate n _))) fun _ => .refl s

theorem keepsOff_laneWaitTimeout (s : State) : KeepsOff s s.laneWaitTimeout := by
  refine .ite (fun _ => ?_) fun _ => .refl s
  have waited : KeepsOff s (s.modZnc fun u => { u with laneWait := .stopped }) := .laneWait (.refl s)
  dsimp only
  split
  · exact .ite (fun _ => waited.reject) fun _ => waited
  · exact waited

theorem keepsOff_laneBound (order : Nat) (s : State) : KeepsOff s (s.laneBound order) := by
  unfold laneBound
  split
  · exact .ite (fun _ => .laneWait (.refl s)) fun _ => .refl s
  · exact .refl s

theorem keepsOff_clearZone (z : Zone) (s : State) : KeepsOff s (s.clearZone z) := by
  have freed : KeepsOff s (s.freeZone z) := .freeZone (.refl s)
  cases z with
  | wrap w => exact freed.then_blocks (by simp [clearZone]) (by simp [clearZone])
  | _ => exact freed

theorem keepsOff_confirmZone (z other : Zone) (n : TrackNo) (s : State) : KeepsOff s (s.confirmZone z other n) := by
  refine ((keepsOff_occupy z n s).trans (.ite (fun _ => ?_) fun _ => .freeZone (.refl _))).trans
    (.ite (fun _ => keepsOff_tellUndone z other _) fun _ => keepsOff_handOn z n _)
  exact .notify (.untrackZone (.refl _))

/-! ### The end of an order, the lanes and the pallets (R36, R38, R20) -/

theorem keepsOff_tellOrderEnded (orphans : List TrackNo) (s : State) : KeepsOff s (s.tellOrderEnded orphans) := by
  have div2 : KeepsOff s (s.div2OrderEnded orphans) := by
    unfold div2OrderEnded
    split
    · exact .ite (fun _ => keepsOff_routeDiv2 s) fun _ => .refl s
    · exact .refl s
  exact div2.then_blocks (by simp [tellOrderEnded]) (by simp [tellOrderEnded])

theorem keepsOff_cancelOrder (number : Nat) (s : State) : KeepsOff s (s.cancelOrder number) := by
  have booked : KeepsOff s (s.cancelInBook number) := .of_blocks
  exact booked.trans (keepsOff_tellOrderEnded _ _)

theorem keepsOff_cutOff (n : Lane) (s : State) : KeepsOff s (s.cutOff n) := by
  have ended : KeepsOff s (s.endLane n .cutOff) := .of_blocks
  unfold cutOff
  dsimp only
  split
  · rename_i number _
    have booked : KeepsOff s ((s.endLane n .cutOff).cutOffInBook number) := ended.then_blocks
    exact booked.trans (keepsOff_tellOrderEnded _ _)
  · exact ended

theorem keepsOff_minuteExpired (n : Lane) (s : State) : KeepsOff s (s.minuteExpired n) := by
  unfold minuteExpired
  dsimp only
  split
  · have counted : KeepsOff s (s.modLane n fun l => { l with remaining := l.remaining - 1 }) := .modLane (.refl s)
    exact counted.trans (.ite (fun _ => keepsOff_cutOff n _) fun _ => .of_blocks)
  · exact .refl s

theorem keepsOff_truckChanged (n : Lane) (active : Bool) (s : State) : KeepsOff s (s.truckChanged n active) :=
  (KeepsOff.refl s).modLane.trans (.ite (fun _ => keepsOff_testRelease n _) fun _ => .refl _)

theorem keepsOff_resumeLane (n : Lane) (s : State) : KeepsOff s (s.resumeLane n) :=
  (KeepsOff.refl s).modLane.trans (keepsOff_testRelease n _)

theorem keepsOff_stand (n : TrackNo) (s : State) : KeepsOff s (s.stand n) :=
  (keepsOff_occupy .infeed n s).then_blocks (by simp [stand]) (by simp [stand])

theorem keepsOff_create (tag : Option Tag) (s : State) : KeepsOff s (s.create tag) := by
  unfold create
  split
  · refine .trans ?_ (keepsOff_stand _ _)
    exact .of_blocks rfl rfl
  · exact .notify (.untrackZone (.refl s))

theorem keepsOff_reuse (n : TrackNo) (t : Tag) (s : State) : KeepsOff s (s.reuse n t) := by
  refine .trans ?_ (keepsOff_stand n _)
  exact .modCku (.modTrt (.modPallet (.refl s)))

theorem keepsOff_identify (tag : Option Tag) (s : State) : KeepsOff s (s.identify tag) := by
  have stopped : KeepsOff s (s.modTrt fun t => { t with tagTimer := .stopped }) := .modTrt (.refl s)
  unfold identify
  dsimp only
  split
  · split
    · exact stopped.trans (keepsOff_reuse _ _ _)
    · exact stopped.trans (keepsOff_create _ _)
  · exact stopped.trans (keepsOff_create _ _)

theorem keepsOff_takeTag (read : Option TagFields) (s : State) : KeepsOff s (s.takeTag read) :=
  .ite (fun _ => keepsOff_identify _ s) fun _ => .refl s

theorem keepsOff_tagTimeout (s : State) : KeepsOff s s.tagTimeout :=
  .ite (fun _ => keepsOff_identify none s) fun _ => .refl s

theorem keepsOff_returnPallet (n : TrackNo) (s : State) : KeepsOff s (s.returnPallet n) :=
  .enter (.freeZone (.modTrt (.modPallet (.refl s))))

theorem keepsOff_pairRemoved (z q : Zone) (s : State) : KeepsOff s (s.pairRemoved z q) := by
  unfold pairRemoved
  split
  · exact .of_blocks
  · exact .of_blocks
  · exact .route (.refl s)
  · exact .refl s

theorem keepsOff_clearPlace (place : RemovalPlace) (s : State) : KeepsOff s (s.clearPlace place) := by
  cases place with
  | spurExit => exact .freeZone (.refl s)
  | offLine => exact .refl s
  | wrapper w => exact .freeZone (.of_blocks (t := s.emptied w) (by simp) (by simp))
  | pair z q => exact .freeZone (.freeZone (keepsOff_pairRemoved z q s))
  | gate n => exact .freeZone (.refl s)

theorem keepsOff_removePallet (n : TrackNo) (place : RemovalPlace) (s : State) :
    KeepsOff s (s.removePallet n place) := by
  have given : KeepsOff s (s.releaseAssignment n) := .of_blocks
  have cleared := (given.modTrt (f := fun t => { t with offLine := t.offLine.filter (· != n) })).trans
    (keepsOff_clearPlace place _)
  exact cleared.then_blocks (by simp [removePallet]) (by simp [removePallet])

/-! ### The second, and the zones at the end of start-up (R105, R206) -/

theorem keepsOff_tickTimers (s : State) : KeepsOff s s.tickTimers := by
  have units : KeepsOff s s.tickUnits := ⟨rfl, fun _ _ h => h, fun _ _ h => h, fun _ h => h⟩
  have zones : KeepsOff s.tickUnits s.tickUnits.tickZones := by
    refine .foldl (f := fun s z => s.modZone z fun r => { r with moveTimer := r.moveTimer.tick })
      (fun u z => ?_) Zone.all _
    exact .modZone (.refl u) fun _ h => h
  exact (units.trans zones).trans (.of_blocks (by simp [tickTimers_eq]) (by simp [tickTimers_eq]))

theorem keepsOff_putZone (z : Zone) {r : ZoneRecord} (h : r.drive = false) (s : State) : KeepsOff s (s.putZone z r) :=
  .modZone (f := fun _ => r) (.refl s) fun _ hd => by rw [h] at hd; cases hd

theorem keepsOff_startZones (s : State) : KeepsOff s s.startZones := by
  unfold startZones
  exact .foldl (fun u z => keepsOff_putZone z rfl u) Zone.all s

end State
end Sys2Proof.Machine

namespace Sys2Proof.Machine

namespace State

theorem KeepsOff.settle {s t : State} (h : KeepsOff s t) : KeepsOff s t.settle := h.trans (keepsOff_settle t)

theorem KeepsOff.pump {s t : State} (h : KeepsOff s t) : KeepsOff s t.pump := h.then_blocks

/-! ### The interlock and the outputs, kept together -/

/-- A part of a step keeps the interlock, and under it the outputs off where the line state wants them off. -/
structure KeepsSafe (s t : State) : Prop where
  interlock : s.interlocked → t.interlocked
  outputs : s.interlocked → s.outputsSafe → t.outputsSafe

theorem interlocked_congr {s t : State} (h : t.lsv = s.lsv) : t.interlocked ↔ s.interlocked := by
  simp only [interlocked, inReset, h]

/-! ### The interlock, by line state (R201, R208) -/

section
variable {s : State}

theorem interlocked_of_powerUp (hl : s.lsv.line = .powerUp) : s.interlocked :=
  ⟨fun _ => hl, by simp [hl], by simp [hl]⟩

theorem interlocked_of_stopped (hl : s.lsv.line = .stopped) (hr : s.inReset = false) : s.interlocked :=
  ⟨by simp [hr], by simp [hl], by simp [hl]⟩

theorem interlocked_of_running (hr : s.inReset = false) (hk : s.lsv.key = .run) (hc : s.lsv.chainOpen = false)
    (hl : s.lsv.line = .running) : s.interlocked :=
  ⟨by simp [hr], fun _ => ⟨hk, hc⟩, by simp [hl]⟩

theorem interlocked_of_halted (hr : s.inReset = false) (hk : s.lsv.key ≠ .run) (hc : s.lsv.chainOpen = false)
    (hl : s.lsv.line = .halted) : s.interlocked :=
  ⟨by simp [hr], by simp [hl], fun _ => ⟨hk, hc⟩⟩

/-- Out of POWER_UP the part is not held in reset. -/
theorem interlocked.awake (h : s.interlocked) (hl : s.lsv.line ≠ .powerUp) : s.inReset = false :=
  Bool.eq_false_iff.mpr fun hr => hl (h.1 hr)

end

theorem KeepsOff.safe {s t : State} (h : KeepsOff s t) : KeepsSafe s t where
  interlock := (interlocked_congr h.lsv).mpr
  outputs _ ho := by
    obtain ⟨hdrives, hinfeed⟩ := ho
    refine ⟨fun hl => ?_, fun hl => ?_⟩
    · rw [h.lsv] at hl
      have hr : s.lsv.line ≠ .running := by rcases hl with hl | hl <;> simp [hl]
      obtain ⟨hd, hg⟩ := hdrives hl
      exact ⟨fun z => Bool.eq_false_iff.mpr fun hz => Bool.eq_false_iff.mp (hd z) (h.drive hr z hz),
        fun n => Bool.eq_false_iff.mpr fun hn => Bool.eq_false_iff.mp (hg n) (h.gate hr n hn)⟩
    · rw [h.lsv] at hl
      exact Bool.eq_false_iff.mpr fun hi => Bool.eq_false_iff.mp (hinfeed hl) (h.infeed hl hi)

namespace KeepsSafe
variable {s t u : State}

theorem refl (s : State) : KeepsSafe s s := ⟨id, fun _ => id⟩

theorem trans (h : KeepsSafe s t) (h' : KeepsSafe t u) : KeepsSafe s u :=
  ⟨h'.interlock ∘ h.interlock, fun hi ho => h'.outputs (h.interlock hi) (h.outputs hi ho)⟩

theorem ite {c : Prop} [Decidable c] (ht : c → KeepsSafe s t) (hu : ¬ c → KeepsSafe s u) :
    KeepsSafe s (if c then t else u) := by
  split
  · exact ht ‹_›
  · exact hu ‹_›

theorem of_blocks (hl : t.lsv = s.lsv := by simp) (hz : t.znc = s.znc := by simp) : KeepsSafe s t :=
  (KeepsOff.of_blocks hl hz).safe

/-- A change of the supervisor that leaves the line state. -/
theorem modLsv {f : Supervisor → Supervisor} (hl : (f s.lsv).line = s.lsv.line)
    (hi : s.interlocked → (s.modLsv f).interlocked) : KeepsSafe s (s.modLsv f) := by
  refine ⟨hi, fun _ ⟨hdrives, hinfeed⟩ => ⟨fun h => hdrives ?_, fun h => hinfeed ?_⟩⟩
  · rwa [modLsv_lsv, hl] at h
  · rwa [modLsv_lsv, hl] at h

/-- A RUNNING line may have any output on. -/
theorem of_running (hl : t.lsv.line = .running) (hi : s.interlocked → t.interlocked) : KeepsSafe s t :=
  ⟨hi, fun _ _ => ⟨fun h => by simp [hl] at h, fun h => absurd hl h⟩⟩

end KeepsSafe

/-! ### The key switch (R200 to R202) -/

/-- A key change puts the line to HALTED: no move starts any more, and the infeed-ready output goes off. -/
theorem keepsSafe_halt {key : KeyPosition} {s : State} (hl : s.lsv.line = .running) (hk : key ≠ .run) :
    KeepsSafe s (((s.modLsv fun v => { v with key := key }).enterLine .halted .keyLeftRun).settle) := by
  have hlsv : ((s.modLsv fun v => { v with key := key }).enterLine .halted .keyLeftRun).lsv =
      { s.lsv with key := key, line := .halted } := by simp [enterLine]
  have hline : ((s.modLsv fun v => { v with key := key }).enterLine .halted .keyLeftRun).lsv.line ≠ .running := by
    simp [hlsv]
  rw [settle_not_running hline]
  refine ⟨fun hi => ?_, fun _ _ => ⟨fun h => ?_, fun _ => rfl⟩⟩
  · have hr := hi.awake (by simp [hl])
    obtain ⟨_, hrun, _⟩ := hi
    exact interlocked_of_halted (by simpa [inReset, hlsv] using hr) (by simpa [hlsv] using hk)
      (by simpa [hlsv] using (hrun hl).2) (by simp [hlsv])
  · simp [hlsv] at h

/-- The return of the key puts the line to RUNNING, with the key in RUN and the chain closed. -/
theorem keepsSafe_resume {s : State} (hl : s.lsv.line = .halted) :
    KeepsSafe s (((s.modLsv fun v => { v with key := .run }).enterLine .running .keyReturned).takeRunning) := by
  have hlsv : (((s.modLsv fun v => { v with key := .run }).enterLine .running .keyReturned).takeRunning).lsv =
      { s.lsv with key := .run, line := .running } := by simp [enterLine]
  refine .of_running (by rw [hlsv]) fun hi => ?_
  have hr := hi.awake (by simp [hl])
  obtain ⟨_, _, hhalted⟩ := hi
  exact interlocked_of_running (by rw [inReset, hlsv]; exact hr) (by rw [hlsv])
    (by rw [hlsv]; exact (hhalted hl).2) (by rw [hlsv])

/-- A key position that agrees with the line state is written only. -/
theorem keepsSafe_key {key : KeyPosition} {s : State} (hr : s.lsv.line = .running → key = .run)
    (hh : s.lsv.line = .halted → key ≠ .run) : KeepsSafe s (s.modLsv fun v => { v with key := key }) :=
  .modLsv rfl fun ⟨hreset, hrun, hhalted⟩ =>
    ⟨hreset, fun h => ⟨hr h, (hrun h).2⟩, fun h => ⟨hh h, (hhalted h).2⟩⟩

theorem keepsSafe_writeKey (key : KeyPosition) (s : State) : KeepsSafe s (s.writeKey key) := by
  cases hl : s.lsv.line with
  | running =>
    simp only [writeKey, hl]
    exact .ite (fun hk => keepsSafe_key (fun _ => hk) (by simp [hl])) fun hk => keepsSafe_halt hl hk
  | halted =>
    simp only [writeKey, hl]
    exact .ite (fun hk => hk ▸ keepsSafe_resume hl) fun hk => keepsSafe_key (by simp [hl]) fun _ => hk
  | powerUp =>
    simp only [writeKey, hl]
    exact keepsSafe_key (by simp [hl]) (by simp [hl])
  | stopped =>
    simp only [writeKey, hl]
    exact keepsSafe_key (by simp [hl]) (by simp [hl])

/-! ### The chain (R203) -/

theorem openChain_lsv {s : State} (hc : s.lsv.chainOpen = false) : s.openChain.lsv = { s.lsv with
    chainOpen := true,
    line := if s.lsv.line = .running ∨ s.lsv.line = .halted then .stopped else s.lsv.line } := by
  simp only [openChain_of hc, testInfeed_frame, stopBlocks_frame, chainStopped_lsv]

/-- The opening of the chain puts the drives off and closes the gates (R100). -/
theorem stopBlocks_off (s : State) :
    (∀ z, (s.stopBlocks.zone z).drive = false) ∧ ∀ n : Lane, s.stopBlocks.znc.gates[n] = false := by
  refine ⟨fun z => ?_, fun n => ?_⟩
  · rw [stopBlocks_zone, chainInterrupted]
    split <;> rfl
  · obtain ⟨zones, hznc⟩ := stopBlocks_znc s
    simp [hznc]

/-- The infeed-ready output, tested, is off unless the line is RUNNING (R87). -/
theorem testInfeed_not_running {s : State} (h : s.lsv.line ≠ .running) : s.testInfeed.znc.infeedReady = false := by
  simp [testInfeed, infeedCondition, isRunning_not_running h]

/-- The opening of the chain ends with the line STOPPED or in POWER_UP and every output off. -/
theorem keepsSafe_openChain (s : State) : KeepsSafe s s.openChain := by
  cases hc : s.lsv.chainOpen with
  | true => rw [openChain_again hc]; exact .refl s
  | false =>
    have hlsv := openChain_lsv hc
    have hline : s.openChain.lsv.line ≠ .running ∧ s.openChain.lsv.line ≠ .halted := by
      rw [hlsv]
      cases s.lsv.line <;> simp
    refine ⟨fun hi => ⟨fun hr => ?_, fun h => absurd h hline.1, fun h => absurd h hline.2⟩, fun _ _ => ?_⟩
    · have hl : s.lsv.line = .powerUp := hi.1 (by simpa [inReset, hlsv] using hr)
      simp [hlsv, hl]
    · obtain ⟨hdrives, hgates⟩ := stopBlocks_off s.chainStopped
      rw [openChain_of hc] at hline ⊢
      generalize s.chainStopped.stopBlocks = u at hdrives hgates hline ⊢
      exact ⟨fun _ => ⟨hdrives, hgates⟩, fun _ => testInfeed_not_running hline.1⟩

theorem keepsSafe_closeChain (s : State) : KeepsSafe s s.closeChain :=
  .modLsv rfl fun ⟨hreset, hrun, hhalted⟩ =>
    ⟨hreset, fun h => ⟨(hrun h).1, rfl⟩, fun h => ⟨(hhalted h).1, rfl⟩⟩

/-! ### RESTART LINE (R204, R205) -/

theorem keepsSafe_restartLine {s : State} (h : s.mayRestart = true) : KeepsSafe s s.restartLine := by
  simp only [mayRestart, Bool.and_eq_true, beq_iff_eq, Bool.not_eq_true'] at h
  obtain ⟨⟨hl, hk⟩, hc⟩ := h
  refine .of_running (by rw [restartLine_lsv]) fun hi => ?_
  have hr := hi.awake (by simp [hl])
  exact interlocked_of_running (by simpa [inReset, restartLine_lsv] using hr) (by rw [restartLine_lsv, hk])
    (by rw [restartLine_lsv, hc]) (by rw [restartLine_lsv])

/-! ### Resets and start-up (R208, R210) -/

/-- Every reset ends in POWER_UP with the outputs off. -/
theorem ResetFrom.safe {s t : State} (h : ResetFrom s t) : KeepsSafe s t := by
  obtain ⟨kind, supply, input, hlsv⟩ := h.lsv
  have hl : t.lsv.line = .powerUp := by rw [hlsv]; rfl
  refine ⟨fun _ => interlocked_of_powerUp hl, fun _ _ => ⟨fun _ => ⟨fun z => ?_, fun n => ?_⟩, fun _ => ?_⟩⟩
  · simp [State.zone, h.znc, ZoneUnit.reset, ZoneRecord.free]
  · simp [h.znc, ZoneUnit.reset]
  · rw [h.znc]; rfl

theorem keepsSafe_assertReset (s : State) : KeepsSafe s s.assertReset := by
  cases hi : s.lsv.resetInput with
  | true => simpa [assertReset, hi] using .refl s
  | false => exact (assertReset_resets hi).safe

theorem keepsSafe_requestedReset (s : State) : KeepsSafe s s.requestedReset := by
  by_cases h : s.drained = true ∧ s.lku.sending = none ∧ s.inReset = false
  · exact (requestedReset_resets h).safe
  · simpa only [requestedReset, if_neg h] using .refl s

/-- The part held in reset stands in POWER_UP, and its release leaves it there. -/
theorem keepsSafe_releaseReset (s : State) : KeepsSafe s s.releaseReset := by
  refine .ite (fun hi => ?_) fun _ => .refl s
  have released : KeepsSafe s (s.modLsv fun v => { v with resetInput := false }) :=
    .modLsv rfl fun ⟨hreset, _, _⟩ =>
      interlocked_of_powerUp (hreset (by simp [inReset, hi]))
  exact released.trans (.ite (fun _ => .of_blocks) fun _ => .refl _)

/-- The end of start-up: POWER_UP and STOPPED want the same outputs off. -/
theorem keepsSafe_endStartUp {s : State} (h : s.startUpOver = true) : KeepsSafe s s.endStartUp := by
  simp only [startUpOver, Bool.and_eq_true, beq_iff_eq, Bool.not_eq_true'] at h
  obtain ⟨⟨⟨hl, hr⟩, _⟩, _⟩ := h
  obtain ⟨u, hu⟩ : ∃ u : State, u = { s with wsq := ⟨foundWrapper s.wsq.fst, foundWrapper s.wsq.snd⟩ } :=
    ⟨_, rfl⟩
  have ranged : KeepsOff s u.setRange := .of_blocks (by simp [hu]) (by simp [hu])
  have found : KeepsOff s u.setRange.startZones.startLanes :=
    (ranged.trans (keepsOff_startZones _)).then_blocks
  have hlsv : s.endStartUp.lsv = { s.lsv with
      key := keyReading s.pins.keyRun s.pins.keySetup s.pins.keyService, chainOpen := s.pins.chainOpen,
      line := .stopped } := by
    simp [endStartUp]
  have hznc : s.endStartUp.znc = u.setRange.startZones.startLanes.znc := by
    simp [endStartUp, hu]
  refine ⟨fun _ => interlocked_of_stopped (by rw [hlsv]) (by simpa [inReset, hlsv] using hr), fun hi ho => ?_⟩
  have hl' : u.setRange.startZones.startLanes.lsv.line = .powerUp := by rw [found.lsv, hl]
  obtain ⟨hdrives, hinfeed⟩ := found.safe.outputs hi ho
  obtain ⟨hd, hg⟩ := hdrives (.inr hl')
  refine ⟨fun _ => ⟨fun z => ?_, fun n => ?_⟩, fun _ => ?_⟩
  · rw [zone_congr hznc]; exact hd z
  · rw [hznc]; exact hg n
  · rw [hznc]; exact hinfeed (by rw [hl']; decide)

/-- A second counts the clock, which no line state rests on. -/
theorem keepsSafe_tick (s : State) : KeepsSafe s s.tick := by
  have counted : KeepsSafe s (s.modLsv fun v => { v with clock := v.clock + 1 }) := .modLsv rfl id
  rw [tick]
  exact counted.trans (keepsOff_tickTimers _).safe

end State
end Sys2Proof.Machine

namespace Sys2Proof.Machine

/-! ### The requests (R186, R216) -/

/-- A choice of answers. -/
theorem State.KeepsOff.answer_ite {s : State} {c : Prop} [Decidable c] {x y : State × Response}
    (hx : c → State.KeepsOff s x.1) (hy : ¬ c → State.KeepsOff s y.1) :
    State.KeepsOff s (if c then x else y).1 := by
  split
  · exact hx ‹_›
  · exact hy ‹_›

open State

/-! ### The orders (R29, R36, R45, R46) -/

theorem keepsOff_actNewOrder (r : NewOrder) (s : State) : KeepsOff s (actNewOrder r s).1 :=
  .answer_ite (fun _ => .refl s) fun _ => .answer_ite (fun _ => .refl s) fun _ => .of_blocks rfl rfl

theorem keepsOff_actCancelOrder (number : Nat) (s : State) : KeepsOff s (actCancelOrder number s).1 := by
  unfold actCancelOrder
  split
  · exact .refl s
  · exact .answer_ite (fun _ => (keepsOff_cancelOrder number s).settle) fun _ => .refl s

theorem keepsOff_actCloseOrder (number : Nat) (s : State) : KeepsOff s (actCloseOrder number s).1 := by
  unfold actCloseOrder
  split
  · exact .refl s
  · exact .answer_ite (fun _ => .refl s) fun _ => .of_blocks rfl rfl

theorem keepsOff_actAuthorise (a : Nat × Text) (s : State) : KeepsOff s (actAuthorise a s).1 := by
  have written : KeepsOff s (s.modOrder a.1 fun o => { o with authority := some a.2 }) := .of_blocks
  unfold actAuthorise
  split
  · exact .refl s
  · refine .answer_ite (fun _ => .refl s) fun _ => .answer_ite (fun _ => .refl s) fun _ => ?_
    dsimp only [okay]
    split
    · exact (written.trans (keepsOff_testRelease _ _)).settle
    · exact written

/-! ### The lanes (R149, R150, R153, R154) -/

theorem keepsOff_actBindLane (a : Lane × Nat × Nat) (s : State) : KeepsOff s (actBindLane a s).1 := by
  have bound : KeepsOff s (s.bindLane a.1 a.2.1 a.2.2) := .of_blocks
  unfold actBindLane
  split
  · exact .refl s
  · exact .answer_ite (fun _ => .refl s) fun _ => .answer_ite (fun _ => .refl s) fun _ =>
      (bound.trans (keepsOff_laneBound _ _)).settle

theorem keepsOff_actUnbindLane (n : Lane) (s : State) : KeepsOff s (actUnbindLane n s).1 :=
  .answer_ite (fun _ => .of_blocks) fun _ => .refl s

theorem keepsOff_actPauseLane (n : Lane) (s : State) : KeepsOff s (actPauseLane n s).1 :=
  .answer_ite (fun _ => .of_blocks) fun _ => .refl s

theorem keepsOff_actResumeLane (n : Lane) (s : State) : KeepsOff s (actResumeLane n s).1 :=
  .answer_ite (fun _ => (keepsOff_resumeLane n s).settle) fun _ => .refl s

theorem keepsOff_actExtend (a : Lane × Nat) (s : State) : KeepsOff s (actExtend a s).1 :=
  .answer_ite (fun _ => .of_blocks) fun _ => .refl s

/-! ### The check and the store's jobs (R67, R73, R75, R167 to R169, R175, R177) -/

theorem keepsOff_actDecideHold (a : TrackNo × Decision) (s : State) : KeepsOff s (actDecideHold a s).1 := by
  unfold actDecideHold
  split
  · exact .refl s
  · refine .answer_ite (fun _ => ?_) fun _ => .answer_ite (fun _ => .refl s) fun _ => .refl s
    dsimp only [okay]
    split
    · exact (KeepsOff.of_blocks (t := s.overrideHold a.1) (by simp) (by simp)).settle
    · exact (KeepsOff.of_blocks (t := s.divertHold a.1) (by simp) (by simp)).settle

theorem keepsOff_acceptJob (kind : Byte) (write : StoreWrite) (s : State) : KeepsOff s (acceptJob kind write s).1 := by
  rw [acceptJob_eq]
  exact .of_blocks

theorem keepsOff_withSlot {s : State} {further : State × Response} (h : KeepsOff s further.1) :
    KeepsOff s (withSlot s further).1 :=
  .answer_ite (fun _ => .refl s) fun _ => h

theorem keepsOff_defineProfile (kind : Byte) (p : Profile) (s : State) : KeepsOff s (defineProfile kind p s).1 := by
  rw [defineProfile_eq]
  refine .answer_ite (fun _ => .refl s) fun _ => .answer_ite (fun _ => .refl s) fun _ => ?_
  split
  · exact .refl s
  · exact keepsOff_acceptJob kind _ s

theorem keepsOff_actSupplyProfile (p : Profile) (s : State) : KeepsOff s (actSupplyProfile p s).1 :=
  .answer_ite (fun _ => keepsOff_defineProfile 0x2A p s) fun _ => .refl s

theorem keepsOff_actDeleteProfile (product : Nat) (s : State) : KeepsOff s (actDeleteProfile product s).1 := by
  refine keepsOff_withSlot ?_
  split
  · exact .refl s
  · exact keepsOff_acceptJob _ _ s

theorem keepsOff_actDeleteRecipe (i : Fin 16) (s : State) : KeepsOff s (actDeleteRecipe i s).1 :=
  keepsOff_withSlot (.answer_ite (fun _ => .refl s) fun _ => .answer_ite (fun _ => .refl s) fun _ =>
    keepsOff_acceptJob _ _ s)

theorem keepsOff_actSetSite (sitePrefix : Text) (s : State) : KeepsOff s (actSetSite sitePrefix s).1 := by
  refine keepsOff_withSlot ?_
  split
  · exact .answer_ite (fun _ => .refl s) fun _ => keepsOff_acceptJob _ _ s
  · exact .refl s

theorem keepsOff_actRecoverSerials (a : Text × Nat) (s : State) : KeepsOff s (actRecoverSerials a s).1 := by
  refine .answer_ite (fun _ => .refl s) fun _ => keepsOff_withSlot ?_
  refine .answer_ite (fun _ => .refl s) fun _ => ?_
  split
  · exact .refl s
  · exact .answer_ite (fun _ => .refl s) fun _ => keepsOff_acceptJob _ _ s

/-! ### The pallets and zones (R17, R20, R102, R103) -/

theorem keepsOff_actRemovePallet (n : TrackNo) (s : State) : KeepsOff s (actRemovePallet n s).1 := by
  unfold actRemovePallet
  split
  · exact (keepsOff_removePallet n _ s).settle
  · exact .refl s

theorem keepsOff_actReturnPallet (n : TrackNo) (s : State) : KeepsOff s (actReturnPallet n s).1 := by
  unfold actReturnPallet
  split
  · exact (keepsOff_returnPallet n s).settle
  · exact .refl s

theorem keepsOff_actClearZone (z : Zone) (s : State) : KeepsOff s (actClearZone z s).1 :=
  .answer_ite (fun _ => .refl s) fun _ => .answer_ite (fun _ => .refl s) fun _ =>
    (keepsOff_clearZone z s).settle

theorem keepsOff_actConfirmZone (a : Zone × TrackNo) (s : State) : KeepsOff s (actConfirmZone a s).1 := by
  refine .answer_ite (fun _ => .refl s) fun _ => .answer_ite (fun _ => .refl s) fun _ => ?_
  refine .answer_ite (fun _ => .refl s) fun _ => .answer_ite (fun _ => .refl s) fun _ => ?_
  split
  · exact (keepsOff_confirmZone a.1 _ a.2 s).settle
  · exact .refl s

/-! ### The wrappers and the labeller (R116, R121 to R125, R142) -/

theorem keepsOff_actRestoreWrapper (tag : Byte) (w : Wrapper) (s : State) : KeepsOff s (actRestoreWrapper tag w s).1 :=
  .answer_ite (fun _ => .refl s) fun _ => .answer_ite (fun _ => .refl s) fun _ =>
    .of_blocks

theorem keepsOff_actWrapperOffline (w : Wrapper) (s : State) : KeepsOff s (actWrapperOffline w s).1 := by
  have marked : KeepsOff s (s.modWrapper w fun r => { r with abortPending := true }) := .modWrapper (.refl s)
  unfold actWrapperOffline
  split
  · exact .settle (.modWrapper (.refl s))
  · exact .settle (.modWrapper (.refl s))
  · exact marked
  · exact .settle marked.then_blocks
  · exact .refl s

theorem keepsOff_actWrapperOnline (w : Wrapper) (s : State) : KeepsOff s (actWrapperOnline w s).1 :=
  .answer_ite (fun _ => .settle .of_blocks) fun _ => .refl s

theorem keepsOff_actFilmLoaded (a : Wrapper × Nat) (s : State) : KeepsOff s (actFilmLoaded a s).1 := by
  have loaded : KeepsOff s (s.modWrapper a.1 fun r => { r with film := a.2, lowFilmSent := false }) :=
    .of_blocks
  exact .answer_ite (fun _ => .refl s) fun _ => .answer_ite
    (fun _ => .settle (loaded.then_blocks)) fun _ => loaded

theorem keepsOff_actRestartWrap (w : Wrapper) (s : State) : KeepsOff s (actRestartWrap w s).1 :=
  .answer_ite (fun _ => .settle .of_blocks) fun _ => .refl s

theorem keepsOff_actReleaseUnwrapped (w : Wrapper) (s : State) : KeepsOff s (actReleaseUnwrapped w s).1 := by
  refine .answer_ite (fun _ => ?_) fun _ => .refl s
  refine .settle (.modWrapper ?_)
  split
  · exact .reject (.refl s)
  · exact .refl s

theorem keepsOff_actRestoreLabeller (u : Unit) (s : State) : KeepsOff s (actRestoreLabeller u s).1 :=
  .answer_ite (fun _ => .settle .of_blocks) fun _ => .refl s

/-! ### The reports that read the store (R179, R180) -/

theorem keepsOff_actReadPallet (n : TrackNo) (s : State) : KeepsOff s (actReadPallet n s).1 := by
  unfold actReadPallet
  split <;> exact .refl s

theorem keepsOff_actReadOrder (number : Nat) (s : State) : KeepsOff s (actReadOrder number s).1 := by
  unfold actReadOrder
  split <;> exact .refl s

theorem keepsOff_actReadDispatchList (page : Nat × Nat) (s : State) : KeepsOff s (actReadDispatchList page s).1 := by
  unfold actReadDispatchList
  split <;> exact .refl s

theorem keepsOff_actReadProfile (product : Nat) (s : State) : KeepsOff s (actReadProfile product s).1 := by
  have read {e : Entry Profile} {t : State} (h : s.readProfileOf product = (e, t)) : KeepsOff s t := by
    obtain ⟨_, _, _, hznc, _, _, hlsv, _⟩ := readProfileOf_of h
    exact .of_blocks hlsv hznc
  unfold actReadProfile
  split
  · exact .refl s
  · split
    · exact read ‹_›
    · exact read ‹_›
    · exact read ‹_›

theorem keepsOff_actReadRecipe (i : Fin 16) (s : State) : KeepsOff s (actReadRecipe i s).1 := by
  have read {e : Entry Recipe} {t : State} (h : s.readRecipeEntry i = (e, t)) : KeepsOff s t := by
    obtain ⟨_, _, _, hznc, _, _, hlsv, _⟩ := readRecipeEntry_of h
    exact .of_blocks hlsv hznc
  unfold actReadRecipe
  split
  · exact read ‹_›
  · exact read ‹_›
  · exact read ‹_›

theorem keepsOff_actReadSettings (u : Unit) (s : State) : KeepsOff s (actReadSettings u s).1 :=
  .of_blocks (by simp [actReadSettings]) (by simp [actReadSettings])

/-! ### The line (R204, R207, R209) -/

theorem keepsSafe_actRestartLine (u : Unit) (s : State) : KeepsSafe s (actRestartLine u s).1 := by
  unfold actRestartLine
  split
  · exact keepsSafe_restartLine ‹_›
  · exact .refl s

theorem keepsSafe_actSetClock (value : Nat) (s : State) : KeepsSafe s (actSetClock value s).1 :=
  .modLsv (f := fun v => { v with clock := BitVec.ofNat 32 value, unset := false }) rfl id

theorem keepsSafe_actResetController (u : Unit) (s : State) : KeepsSafe s (actResetController u s).1 := by
  unfold actResetController
  split
  · exact .refl s
  · exact .modLsv (f := fun v => { v with resetPending := true }) rfl id

/-! ### Every request taken (R185 to R188) -/

/-- What the owner of a request makes of it keeps the interlock and the outputs. -/
def Request.Safe (r : Request) : Prop := ∀ tag body s, KeepsSafe s (r.handle tag body s).1

theorem keepsSafe_withArgs {α : Type} {arg : Checked α} {act : α → State → State × Response} {s : State}
    (h : ∀ a, KeepsSafe s (act a s).1) : KeepsSafe s (withArgs arg act s).1 := by
  cases arg with
  | ok a => exact h a
  | error st => exact .refl s

theorem reportRequest_safe (report : State → List Byte) (body : List Byte) (s : State) :
    KeepsSafe s (reportRequest report body s).1 :=
  keepsSafe_withArgs fun _ => .refl s

theorem request_safe {r : Request} (hr : r ∈ requests) : r.Safe := by
  have off {α : Type} {act : α → State → State × Response} (h : ∀ a s, KeepsOff s (act a s).1)
      (arg : List Byte → Checked α) (_tag : Byte) (body : List Byte) (s : State) :
      KeepsSafe s (withArgs (arg body) act s).1 :=
    keepsSafe_withArgs fun a => (h a s).safe
  have all : ∀ r ∈ requests, r.Safe := by
    simp only [requests, List.forall_mem_append, List.forall_mem_cons, List.not_mem_nil, false_implies, implies_true,
      and_true]
    refine ⟨⟨⟨fun _ => reportRequest_safe _, off keepsOff_actReadPallet _, fun _ => reportRequest_safe _,
      off keepsOff_actReadOrder _, fun _ => reportRequest_safe _, off keepsOff_actReadDispatchList _,
      off keepsOff_actReadProfile _, off keepsOff_actReadRecipe _, fun _ => reportRequest_safe _,
      fun _ => reportRequest_safe _, fun _ => reportRequest_safe _, off keepsOff_actReadSettings _⟩,
      off keepsOff_actNewOrder _, off keepsOff_actCancelOrder _, off keepsOff_actCloseOrder _,
      off keepsOff_actAuthorise _, off keepsOff_actBindLane _, off keepsOff_actUnbindLane _,
      off keepsOff_actPauseLane _, off keepsOff_actResumeLane _, off keepsOff_actExtend _, off keepsOff_actDecideHold _,
      off keepsOff_actSupplyProfile _, off keepsOff_actRemovePallet _, off keepsOff_actReturnPallet _,
      off keepsOff_actClearZone _, off keepsOff_actConfirmZone _, ?restart,
      fun tag => off (keepsOff_actRestoreWrapper tag) _ tag, off keepsOff_actWrapperOffline _,
      off keepsOff_actWrapperOnline _, off keepsOff_actFilmLoaded _, off keepsOff_actRestartWrap _,
      off keepsOff_actReleaseUnwrapped _, off keepsOff_actRestoreLabeller _, ?heads, ?clock⟩,
      off (keepsOff_defineProfile 0x40) _, off keepsOff_actDeleteProfile _, ?recipe, off keepsOff_actDeleteRecipe _,
      ?timing, off keepsOff_actSetSite _, off keepsOff_actRecoverSerials _, ?reset⟩
    case restart => exact fun _ _ s => keepsSafe_withArgs fun u => keepsSafe_actRestartLine u s
    case clock => exact fun _ _ s => keepsSafe_withArgs fun value => keepsSafe_actSetClock value s
    case reset => exact fun _ _ s => keepsSafe_withArgs fun u => keepsSafe_actResetController u s
    case heads => exact off (act := actInhibitHeads) (fun _ _ => .of_blocks rfl rfl) _
    case recipe => exact off (act := actDefineRecipe) (fun _ s => keepsOff_withSlot (keepsOff_acceptJob _ _ s)) _
    case timing => exact off (act := actSetTiming) (fun _ s => keepsOff_withSlot (keepsOff_acceptJob _ _ s)) _
  exact all r hr

namespace State

theorem keepsSafe_answer {s : State} (kind tag : Byte) {x : State × Response} (h : KeepsSafe s x.1) :
    KeepsSafe s (answer kind tag x) := by
  obtain ⟨t, response⟩ := x
  cases response with
  | now st data => exact h.trans .of_blocks
  | owed => exact h

theorem keepsSafe_place (a : Answer) (s : State) : KeepsSafe s (s.place a) := .of_blocks

theorem keepsSafe_takeRequest {r : Request} (hr : r.Safe) (tag : Byte) (body : List Byte) (s : State) :
    KeepsSafe s (s.takeRequest r tag body) :=
  .ite (fun _ => keepsSafe_place _ s) fun _ => .ite (fun _ => keepsSafe_place _ s) fun _ =>
    keepsSafe_answer _ _ (hr tag body s)

theorem keepsSafe_takeFrame (f : Frame) (s : State) : KeepsSafe s (s.takeFrame f) := by
  unfold takeFrame
  split
  · rename_i r hr
    exact keepsSafe_takeRequest (request_safe (List.mem_of_find?_eq_some hr)) _ _ s
  · exact keepsSafe_place _ s

theorem keepsSafe_modLku (f : Link → Link) (s : State) : KeepsSafe s (s.modLku f) := .of_blocks rfl rfl

theorem keepsSafe_goodFrame (f : Frame) {take : State → State} {s : State} (h : KeepsSafe s (take s)) :
    KeepsSafe s (s.goodFrame f take) :=
  .ite (fun _ => .refl s) fun _ => .ite (fun _ => keepsSafe_modLku _ s) fun _ => .ite (fun _ => h) fun _ =>
    keepsSafe_modLku _ s

theorem keepsSafe_pump (s : State) : KeepsSafe s s.pump := (KeepsOff.refl s).pump.safe

theorem keepsSafe_event {f : State → State} {s : State} (h : KeepsSafe s (f s)) : KeepsSafe s (s.event f) :=
  .ite (fun _ => .refl s) fun _ => h.trans (keepsSafe_pump _)

theorem keepsSafe_arrival {f : State → State} {s : State} (h : KeepsSafe s (f s)) : KeepsSafe s (s.arrival f) :=
  .ite (fun _ => .refl s) fun _ => h.trans (keepsSafe_pump _)

/-- An input changes its level, and the change is taken or not. -/
theorem keepsSafe_input (g : Pins → Pins) {f : State → State} {s : State} (h : ∀ s, KeepsSafe s (f s)) :
    KeepsSafe s ((s.modPins g).arrival f) := by
  have written : KeepsSafe s (s.modPins g) := .of_blocks rfl rfl
  exact written.trans (keepsSafe_arrival (h _))

theorem keepsSafe_receive {r : Request} (hr : r ∈ requests) (tag : Byte) (body : List Byte) (s : State) :
    KeepsSafe s (s.receive r tag body) :=
  keepsSafe_event (keepsSafe_goodFrame _ (keepsSafe_takeRequest (request_safe hr) tag body s))

/-! ### The link (R182 to R184, R196) -/

theorem keepsSafe_takeHeld (s : State) : KeepsSafe s s.takeHeld := by
  unfold takeHeld
  split
  · exact .ite (fun _ => (keepsSafe_modLku _ s).trans (keepsSafe_takeFrame _ _)) fun _ => .refl s
  · exact .refl s

theorem keepsSafe_discard (s : State) : KeepsSafe s s.discard := .of_blocks

theorem keepsSafe_endFrameIn (length : Nat) (got : List Byte) (check : Nat) (s : State) :
    KeepsSafe s (s.endFrameIn length got check) := by
  refine .ite (fun _ => ?_) fun _ => keepsSafe_discard s
  split
  · exact (keepsSafe_modLku _ s).trans (keepsSafe_goodFrame _ (keepsSafe_takeFrame _ _))
  · exact keepsSafe_discard s

theorem keepsSafe_takeByte (b : Byte) (framingError : Bool) (s : State) : KeepsSafe s (s.takeByte b framingError) := by
  have listens (r : Receiver) : KeepsSafe s (s.listenAt r) := keepsSafe_modLku _ s
  unfold takeByte
  split
  · exact .ite (fun _ => listens _) fun _ => .refl s
  · refine .ite (fun _ => keepsSafe_discard s) fun _ => ?_
    split
    · exact listens _
    · exact .ite (fun _ => listens _) fun _ => keepsSafe_discard s
    · exact listens _
    · exact listens _
    · exact keepsSafe_endFrameIn _ _ _ s
    · exact .refl s

theorem keepsSafe_frameEnds (s : State) : KeepsSafe s s.frameEnds :=
  .ite (fun _ => ((keepsSafe_modLku _ s).trans (keepsSafe_pump _)).trans (keepsSafe_takeHeld _)) fun _ => .refl s

theorem keepsOff_stationOutcome (w : Wrapper) (number : Byte) {handle : PassKind → State → State}
    (h : ∀ kind t, (handle kind t).lsv = t.lsv ∧ (handle kind t).znc = t.znc) (s : State) :
    KeepsOff s (s.stationOutcome w number handle) := by
  unfold stationOutcome
  split
  · obtain ⟨hlsv, hznc⟩ := h ‹_› (s.modWrapper w fun r => { r with channel := r.channel.idled })
    exact .of_blocks (by simp [hlsv]) (by simp [hznc])
  · exact .refl s

end State
end Sys2Proof.Machine

namespace Sys2Proof.Machine
open State

/-! ### Every command (R201, R208) -/

/-- Every command keeps the interlock, and under it the outputs off: the requests by their owners, the events of the line
by the line state they lead to, all others by putting no output on unless the line is RUNNING. -/
theorem keepsSafe_exec (c : Instr) (s : State) : ∃ t, exec c s = .next t ∧ KeepsSafe s t := by
  have event {f : State → State} (h : KeepsOff s (f s)) : KeepsSafe s (s.event f) := keepsSafe_event h.safe
  have settled {f : State → State} (h : KeepsOff s (f s)) : KeepsSafe s (s.event fun s => (f s).settle) :=
    keepsSafe_event h.settle.safe
  have arrival {f : State → State} (h : KeepsOff s (f s)) : KeepsSafe s (s.arrival fun s => (f s).settle) :=
    keepsSafe_arrival h.settle.safe
  cases c with
  -- the requests
  | status | readPallet | listTrack | readOrder | listOrders | readDispatchList | readProfile | readRecipe | readLanes
  | readZones | readWrappers | readSettings | newOrder | cancelOrder | closeOrder | authoriseRelease | bindLane
  | unbindLane | pauseLane | resumeLane | extendCutOff | decideHold | supplyProfile | removePallet | returnPallet
  | clearZone | confirmZone | restartLine | restoreWrapper | wrapperOffline | wrapperOnline | filmLoaded | restartWrap
  | releaseUnwrapped | restoreLabeller | inhibitHeads | setClock | defineProfile | deleteProfile | defineRecipe
  | deleteRecipe | setTiming | setSite | recoverSerials | resetController =>
    exact ⟨_, rfl, keepsSafe_receive (by simp [requests]) _ _ s⟩
  | unknownRequestKind kind tag body =>
    exact ⟨_, rfl, keepsSafe_event (keepsSafe_goodFrame _ (keepsSafe_takeFrame _ s))⟩
  -- the link
  | frameCheckFailed => exact ⟨_, rfl, keepsSafe_event (keepsSafe_discard s)⟩
  | receiveOverrun => exact ⟨_, rfl, keepsSafe_event (.ite (fun _ => keepsSafe_discard s) fun _ => .refl s)⟩
  | byteGapTimeout => exact ⟨_, rfl, event .of_blocks⟩
  | heldFrameTaken => exact ⟨_, rfl, keepsSafe_event (keepsSafe_takeHeld s)⟩
  | frameSent => exact ⟨_, rfl, keepsSafe_event (keepsSafe_frameEnds s)⟩
  | linkByteReceived byte framingError => exact ⟨_, rfl, keepsSafe_event (keepsSafe_takeByte byte framingError s)⟩
  -- the resets, start-up and the clock
  | resetRequest => exact ⟨_, rfl, keepsSafe_requestedReset s⟩
  | powerOn => exact ⟨_, rfl, (powerOn_resets s).safe⟩
  | resetInput => exact ⟨_, rfl, keepsSafe_assertReset s⟩
  | powerLoss => exact ⟨_, rfl, (powerLoss_resets s).safe⟩
  | resetInputReleased => exact ⟨_, rfl, keepsSafe_releaseReset s⟩
  | startUpEnd =>
    exact ⟨_, rfl, .ite (fun h => (keepsSafe_endStartUp h).trans (keepsSafe_pump _)) fun _ => .refl s⟩
  | clockTick => exact ⟨_, rfl, .ite (fun _ => .refl s) fun _ => keepsSafe_tick s⟩
  -- the key switch and the chain
  | keySwitchChange run setup service =>
    exact ⟨_, rfl, keepsSafe_input _ fun u => .ite (fun _ => .refl u) fun _ => keepsSafe_writeKey _ u⟩
  | chainOpens => exact ⟨_, rfl, keepsSafe_input _ keepsSafe_openChain⟩
  | chainCloses => exact ⟨_, rfl, keepsSafe_input _ keepsSafe_closeChain⟩
  -- the eyes, the tag and the moves
  | eyeMade z => exact ⟨_, rfl, keepsSafe_input _ fun u => (keepsOff_eyeIsMade z u).settle.safe⟩
  | eyeCleared z => exact ⟨_, rfl, keepsSafe_input _ fun u => (keepsOff_eyeIsCleared z u).settle.safe⟩
  | tagRead read => exact ⟨_, rfl, arrival (keepsOff_takeTag read s)⟩
  | tagTimerExpiry => exact ⟨_, rfl, settled (keepsOff_tagTimeout s)⟩
  | moveTimerExpiry source => exact ⟨_, rfl, event (keepsOff_moveTimeout source s)⟩
  | departureTimeout n => exact ⟨_, rfl, event (keepsOff_departureTimeout n s)⟩
  | laneWaitTimerExpiry => exact ⟨_, rfl, settled (keepsOff_laneWaitTimeout s)⟩
  -- the lanes
  | minuteTimerExpiry n => exact ⟨_, rfl, settled (keepsOff_minuteExpired n s)⟩
  | truckPresentChange n active =>
    exact ⟨_, rfl, keepsSafe_input _ fun u => (keepsOff_truckChanged n active u).settle.safe⟩
  -- the check, the stations, the labeller and the store, which leave the zones and the supervisor alone
  | weightReading | frameBegin | scanRow | frameEnd => exact ⟨_, rfl, arrival .of_blocks⟩
  | stationDone w number => exact ⟨_, rfl, settled (keepsOff_stationOutcome w number (fun _ _ => by simp) s)⟩
  | stationFilmBreak w number => exact ⟨_, rfl, settled (keepsOff_stationOutcome w number (fun _ _ => by simp) s)⟩
  | weightTimerExpiry | scanTimerExpiry | holdTimerExpiry | stationStatusReport | readerText | readerNoRead
  | readTimerExpiry => exact ⟨_, rfl, settled .of_blocks⟩
  | stationAccepted | stationFault | acceptanceTimerExpiry | passTimerExpiry | headApplied | headFault
  | applyTimerExpiry | storeWriteReport | writeTimerExpiry => exact ⟨_, rfl, event .of_blocks⟩

/-- A step is its front command on the queue's rest, or no change. -/
theorem keepsSafe_step {s t : State} (h : step s = .next t) : KeepsSafe s t := by
  cases hp : s.pending with
  | nil =>
    have same : step s = .next s := by simp only [step, hp]
    cases same.symm.trans h
    exact .refl s
  | cons c rest =>
    have run : step s = exec c (s.withPending rest) := by simp only [step, hp]
    obtain ⟨u, hu, safe⟩ := keepsSafe_exec c (s.withPending rest)
    cases (run.trans hu).symm.trans h
    have taken : KeepsSafe s (s.withPending rest) := .of_blocks rfl rfl
    exact taken.trans safe

/-- Settles O6: every command keeps both together (`keepsSafe_exec`). -/
theorem stepKeepsInterlockAndOutputs : Obligations.StepKeepsInterlockAndOutputs :=
  ⟨fun _ _ hi h => (keepsSafe_step h).interlock hi, fun _ _ hi ho h => (keepsSafe_step h).outputs hi ho⟩

end Sys2Proof.Machine

namespace Sys2Proof.Machine

/-! ### A step (log 1) -/

theorem step_of_front {c : Instr} {rest : List Instr} {s : State} (h : s.pending = c :: rest) :
    step s = exec c (s.withPending rest) := by
  simp only [step, h]

theorem step_of_empty {s : State} (h : s.pending = []) : step s = .next s := by
  simp only [step, h]

/-- Settles O1, clause by clause. -/
theorem stepRunsTheFrontCommandOrIdles : Obligations.StepRunsTheFrontCommandOrIdles :=
  ⟨fun _ _ _ => step_of_front rfl, fun _ h => step_of_empty h⟩

end Sys2Proof.Machine

namespace Sys2Proof.Machine

/-! ### The queue through a choice -/

section
variable {c : Prop} [Decidable c] {q : List Instr}

theorem State.pending_ite {t u : State} (ht : t.pending = q) (hu : u.pending = q) :
    (if c then t else u).pending = q := by
  split
  · exact ht
  · exact hu

/-- A choice of answers. -/
theorem pending_answer_ite {x y : State × Response} (hx : x.1.pending = q) (hy : y.1.pending = q) :
    (if c then x else y).1.pending = q := by
  split
  · exact hx
  · exact hy

end

open State

/-! ### The queue through the requests: the orders (R29, R36, R45, R46) -/

theorem actNewOrder_pending (r : NewOrder) (s : State) : (actNewOrder r s).1.pending = s.pending :=
  pending_answer_ite rfl (pending_answer_ite rfl rfl)

theorem actCancelOrder_pending (number : Nat) (s : State) : (actCancelOrder number s).1.pending = s.pending := by
  unfold actCancelOrder
  split
  · rfl
  · exact pending_answer_ite (by simp [okay]) rfl

theorem actCloseOrder_pending (number : Nat) (s : State) : (actCloseOrder number s).1.pending = s.pending := by
  unfold actCloseOrder
  split
  · rfl
  · exact pending_answer_ite rfl rfl

theorem actAuthorise_pending (a : Nat × Text) (s : State) : (actAuthorise a s).1.pending = s.pending := by
  unfold actAuthorise
  split
  · rfl
  · refine pending_answer_ite rfl (pending_answer_ite rfl ?_)
    dsimp only [okay]
    split <;> simp

/-! ### The lanes (R149, R150, R153, R154) -/

theorem actBindLane_pending (a : Lane × Nat × Nat) (s : State) : (actBindLane a s).1.pending = s.pending := by
  unfold actBindLane
  split
  · rfl
  · exact pending_answer_ite rfl (pending_answer_ite rfl (by simp [okay]))

theorem actUnbindLane_pending (n : Lane) (s : State) : (actUnbindLane n s).1.pending = s.pending :=
  pending_answer_ite (by simp [okay]) rfl

theorem actPauseLane_pending (n : Lane) (s : State) : (actPauseLane n s).1.pending = s.pending :=
  pending_answer_ite (by simp [okay]) rfl

theorem actResumeLane_pending (n : Lane) (s : State) : (actResumeLane n s).1.pending = s.pending :=
  pending_answer_ite (by simp [okay]) rfl

theorem actExtend_pending (a : Lane × Nat) (s : State) : (actExtend a s).1.pending = s.pending :=
  pending_answer_ite (by simp [okay]) rfl

/-! ### The check and the store's jobs (R67, R73, R167 to R169, R175, R177) -/

theorem actDecideHold_pending (a : TrackNo × Decision) (s : State) : (actDecideHold a s).1.pending = s.pending := by
  unfold actDecideHold
  split
  · rfl
  · refine pending_answer_ite ?_ (pending_answer_ite rfl rfl)
    dsimp only [okay]
    split <;> simp

theorem acceptJob_pending (kind : Byte) (write : StoreWrite) (s : State) :
    (acceptJob kind write s).1.pending = s.pending := by
  simp [acceptJob_eq]

theorem withSlot_pending {s : State} {further : State × Response} (h : further.1.pending = s.pending) :
    (withSlot s further).1.pending = s.pending :=
  pending_answer_ite rfl h

theorem defineProfile_pending (kind : Byte) (p : Profile) (s : State) :
    (defineProfile kind p s).1.pending = s.pending := by
  rw [defineProfile_eq]
  refine pending_answer_ite rfl (pending_answer_ite rfl ?_)
  split
  · rfl
  · exact acceptJob_pending kind _ s

theorem actSupplyProfile_pending (p : Profile) (s : State) : (actSupplyProfile p s).1.pending = s.pending :=
  pending_answer_ite (defineProfile_pending 0x2A p s) rfl

theorem actDeleteProfile_pending (product : Nat) (s : State) : (actDeleteProfile product s).1.pending = s.pending := by
  refine withSlot_pending ?_
  split
  · rfl
  · exact acceptJob_pending _ _ s

theorem actDefineRecipe_pending (a : Fin 16 × Recipe) (s : State) : (actDefineRecipe a s).1.pending = s.pending :=
  withSlot_pending (acceptJob_pending _ _ s)

theorem actDeleteRecipe_pending (i : Fin 16) (s : State) : (actDeleteRecipe i s).1.pending = s.pending :=
  withSlot_pending (pending_answer_ite rfl (pending_answer_ite rfl (acceptJob_pending _ _ s)))

theorem actSetTiming_pending (v : TimingValues) (s : State) : (actSetTiming v s).1.pending = s.pending :=
  withSlot_pending (acceptJob_pending _ _ s)

theorem actSetSite_pending (sitePrefix : Text) (s : State) : (actSetSite sitePrefix s).1.pending = s.pending := by
  refine withSlot_pending ?_
  split
  · exact pending_answer_ite rfl (acceptJob_pending _ _ s)
  · rfl

theorem actRecoverSerials_pending (a : Text × Nat) (s : State) : (actRecoverSerials a s).1.pending = s.pending := by
  refine pending_answer_ite rfl (withSlot_pending (pending_answer_ite rfl ?_))
  split
  · rfl
  · exact pending_answer_ite rfl (acceptJob_pending _ _ s)

/-! ### The pallets and zones (R17, R20, R102, R103) -/

theorem actRemovePallet_pending (n : TrackNo) (s : State) : (actRemovePallet n s).1.pending = s.pending := by
  unfold actRemovePallet
  split
  · simp [okay]
  · rfl

theorem actReturnPallet_pending (n : TrackNo) (s : State) : (actReturnPallet n s).1.pending = s.pending := by
  unfold actReturnPallet
  split
  · simp [okay]
  · rfl

theorem actClearZone_pending (z : Zone) (s : State) : (actClearZone z s).1.pending = s.pending :=
  pending_answer_ite rfl (pending_answer_ite rfl (by simp [okay]))

theorem actConfirmZone_pending (a : Zone × TrackNo) (s : State) : (actConfirmZone a s).1.pending = s.pending := by
  refine pending_answer_ite rfl (pending_answer_ite rfl (pending_answer_ite rfl (pending_answer_ite rfl ?_)))
  split
  · simp [okay]
  · rfl

/-! ### The wrappers and the labeller (R116, R121 to R125, R142) -/

theorem actRestoreWrapper_pending (tag : Byte) (w : Wrapper) (s : State) :
    (actRestoreWrapper tag w s).1.pending = s.pending :=
  pending_answer_ite rfl (pending_answer_ite rfl (by simp))

theorem actWrapperOffline_pending (w : Wrapper) (s : State) : (actWrapperOffline w s).1.pending = s.pending := by
  unfold actWrapperOffline
  split <;> simp [okay, refuse]

theorem actWrapperOnline_pending (w : Wrapper) (s : State) : (actWrapperOnline w s).1.pending = s.pending :=
  pending_answer_ite (by simp [okay]) rfl

theorem actFilmLoaded_pending (a : Wrapper × Nat) (s : State) : (actFilmLoaded a s).1.pending = s.pending :=
  pending_answer_ite rfl (pending_answer_ite (by simp [okay]) (by simp [okay]))

theorem actRestartWrap_pending (w : Wrapper) (s : State) : (actRestartWrap w s).1.pending = s.pending :=
  pending_answer_ite (by simp [okay]) rfl

theorem actReleaseUnwrapped_pending (w : Wrapper) (s : State) :
    (actReleaseUnwrapped w s).1.pending = s.pending := by
  refine pending_answer_ite ?_ rfl
  dsimp only [okay]
  split <;> simp

theorem actRestoreLabeller_pending (u : Unit) (s : State) : (actRestoreLabeller u s).1.pending = s.pending :=
  pending_answer_ite (by simp [okay]) rfl

/-! ### The reports that read the store (R179, R180) -/

theorem actReadPallet_pending (n : TrackNo) (s : State) : (actReadPallet n s).1.pending = s.pending := by
  unfold actReadPallet
  split <;> rfl

theorem actReadOrder_pending (number : Nat) (s : State) : (actReadOrder number s).1.pending = s.pending := by
  unfold actReadOrder
  split <;> rfl

theorem actReadDispatchList_pending (page : Nat × Nat) (s : State) :
    (actReadDispatchList page s).1.pending = s.pending := by
  unfold actReadDispatchList
  split <;> rfl

theorem actReadProfile_pending (product : Nat) (s : State) : (actReadProfile product s).1.pending = s.pending := by
  have read {e : Entry Profile} {t : State} (h : s.readProfileOf product = (e, t)) : t.pending = s.pending := by
    have kept : (s.readProfileOf product).2.pending = s.pending := by simp
    rwa [h] at kept
  unfold actReadProfile
  split
  · rfl
  · split <;> exact read ‹_›

theorem actReadRecipe_pending (i : Fin 16) (s : State) : (actReadRecipe i s).1.pending = s.pending := by
  have read {e : Entry Recipe} {t : State} (h : s.readRecipeEntry i = (e, t)) : t.pending = s.pending := by
    have kept : (s.readRecipeEntry i).2.pending = s.pending := by simp
    rwa [h] at kept
  unfold actReadRecipe
  split <;> exact read ‹_›

theorem actReadSettings_pending (u : Unit) (s : State) : (actReadSettings u s).1.pending = s.pending := by
  simp [actReadSettings]

/-! ### The line (R204, R209) -/

theorem actRestartLine_pending (u : Unit) (s : State) : (actRestartLine u s).1.pending = s.pending :=
  pending_answer_ite (by simp [okay]) rfl

theorem actResetController_pending (u : Unit) (s : State) : (actResetController u s).1.pending = s.pending :=
  pending_answer_ite rfl rfl

/-! ### Every request taken (R185 to R188) -/

/-- What the owner of a request makes of it leaves the queue. -/
def Request.KeepsQueue (r : Request) : Prop := ∀ tag body s, (r.handle tag body s).1.pending = s.pending

theorem withArgs_pending {α : Type} {act : α → State → State × Response}
    (h : ∀ a s, (act a s).1.pending = s.pending) (arg : Checked α) (s : State) :
    (withArgs arg act s).1.pending = s.pending := by
  cases arg with
  | ok a => exact h a s
  | error st => rfl

theorem request_keepsQueue {r : Request} (hr : r ∈ requests) : r.KeepsQueue := by
  have owner {α : Type} {act : α → State → State × Response} (h : ∀ a s, (act a s).1.pending = s.pending)
      (arg : List Byte → Checked α) (_tag : Byte) (body : List Byte) (s : State) :
      (withArgs (arg body) act s).1.pending = s.pending :=
    withArgs_pending h (arg body) s
  have report (data : State → List Byte) (_tag : Byte) (body : List Byte) (s : State) :
      (reportRequest data body s).1.pending = s.pending :=
    withArgs_pending (fun _ _ => rfl) (argNone body) s
  have all : ∀ r ∈ requests, r.KeepsQueue := by
    simp only [requests, List.forall_mem_append, List.forall_mem_cons, List.not_mem_nil, false_implies, implies_true,
      and_true]
    exact ⟨⟨⟨report _, owner actReadPallet_pending _, report _, owner actReadOrder_pending _, report _,
      owner actReadDispatchList_pending _, owner actReadProfile_pending _, owner actReadRecipe_pending _, report _,
      report _, report _, owner actReadSettings_pending _⟩,
      owner actNewOrder_pending _, owner actCancelOrder_pending _, owner actCloseOrder_pending _,
      owner actAuthorise_pending _, owner actBindLane_pending _, owner actUnbindLane_pending _,
      owner actPauseLane_pending _, owner actResumeLane_pending _, owner actExtend_pending _,
      owner actDecideHold_pending _, owner actSupplyProfile_pending _, owner actRemovePallet_pending _,
      owner actReturnPallet_pending _, owner actClearZone_pending _, owner actConfirmZone_pending _,
      owner actRestartLine_pending _, fun tag => owner (actRestoreWrapper_pending tag) _ tag,
      owner actWrapperOffline_pending _, owner actWrapperOnline_pending _, owner actFilmLoaded_pending _,
      owner actRestartWrap_pending _, owner actReleaseUnwrapped_pending _, owner actRestoreLabeller_pending _,
      owner (act := actInhibitHeads) (fun _ _ => rfl) _, owner (act := actSetClock) (fun _ _ => rfl) _⟩,
      owner (defineProfile_pending 0x40) _, owner actDeleteProfile_pending _, owner actDefineRecipe_pending _,
      owner actDeleteRecipe_pending _, owner actSetTiming_pending _, owner actSetSite_pending _,
      owner actRecoverSerials_pending _, owner actResetController_pending _⟩
  exact all r hr

namespace State

theorem answer_pending (kind tag : Byte) (x : State × Response) : (answer kind tag x).pending = x.1.pending := by
  obtain ⟨t, response⟩ := x
  cases response with
  | now st data => simp
  | owed => rfl

theorem takeRequest_pending {r : Request} (hr : r ∈ requests) (tag : Byte) (body : List Byte) (s : State) :
    (s.takeRequest r tag body).pending = s.pending :=
  pending_ite (by simp) <| pending_ite (by simp) <|
    (answer_pending r.kind tag _).trans (request_keepsQueue hr tag body s)

theorem takeFrame_pending (f : Frame) (s : State) : (s.takeFrame f).pending = s.pending := by
  unfold takeFrame
  split
  · exact takeRequest_pending (List.mem_of_find?_eq_some ‹_›) _ _ s
  · simp

theorem goodFrame_pending (f : Frame) {take : State → State} {s : State} (h : (take s).pending = s.pending) :
    (s.goodFrame f take).pending = s.pending :=
  pending_ite rfl <| pending_ite (by simp) <| pending_ite h rfl

/-! ### The queue through an event (R208, R210) -/

theorem event_pending {f : State → State} {s : State} (h : (f s).pending = s.pending) :
    (s.event f).pending = s.pending :=
  pending_ite rfl (by simp [h])

theorem arrival_pending {f : State → State} {s : State} (h : (f s).pending = s.pending) :
    (s.arrival f).pending = s.pending :=
  pending_ite rfl (by simp [h])

/-- An input changes its level, and the change is taken or not. -/
theorem input_pending (g : Pins → Pins) {f : State → State} (h : ∀ s, (f s).pending = s.pending) (s : State) :
    ((s.modPins g).arrival f).pending = s.pending :=
  arrival_pending (h (s.modPins g))

theorem receive_pending {r : Request} (hr : r ∈ requests) (tag : Byte) (body : List Byte) (s : State) :
    (s.receive r tag body).pending = s.pending :=
  event_pending (goodFrame_pending _ (takeRequest_pending hr tag body s))

theorem stationOutcome_pending (w : Wrapper) (number : Byte) {handle : PassKind → State → State}
    (h : ∀ kind t, (handle kind t).pending = t.pending) (s : State) :
    (s.stationOutcome w number handle).pending = s.pending := by
  unfold stationOutcome
  split
  · simp [h]
  · rfl

/-! ### The link (R182 to R184, R196) -/

theorem takeHeld_pending (s : State) : s.takeHeld.pending = s.pending := by
  unfold takeHeld
  split
  · exact pending_ite (takeFrame_pending _ _) rfl
  · rfl

theorem endFrameIn_pending (length : Nat) (got : List Byte) (check : Nat) (s : State) :
    (s.endFrameIn length got check).pending = s.pending := by
  refine pending_ite ?_ (by simp)
  split
  · exact (goodFrame_pending _ (takeFrame_pending _ s.hunt)).trans (by simp)
  · simp

theorem takeByte_pending (b : Byte) (framingError : Bool) (s : State) :
    (s.takeByte b framingError).pending = s.pending := by
  unfold takeByte
  split
  · exact pending_ite (by simp) rfl
  · refine pending_ite (by simp) ?_
    split
    · simp
    · exact pending_ite (by simp) (by simp)
    · simp
    · simp
    · exact endFrameIn_pending _ _ _ s
    · rfl

theorem frameEnds_pending (s : State) : s.frameEnds.pending = s.pending :=
  pending_ite ((takeHeld_pending _).trans (by simp)) rfl

/-! ### The resets (R208) -/

theorem assertReset_pending (s : State) : s.assertReset.pending = s.pending := by
  cases hi : s.lsv.resetInput with
  | true => simp [assertReset, hi]
  | false => exact (assertReset_resets hi).pending

theorem requestedReset_pending (s : State) : s.requestedReset.pending = s.pending := by
  by_cases h : s.drained = true ∧ s.lku.sending = none ∧ s.inReset = false
  · exact (requestedReset_resets h).pending
  · rw [requestedReset, if_neg h]

theorem releaseReset_pending (s : State) : s.releaseReset.pending = s.pending :=
  pending_ite (pending_ite (by simp) rfl) rfl

end State

/-! ### Every command (log 1) -/

/-- Settles O2: the requests by their owners, the events of the link and the resets by the lemmas above, all others by
the frames of the operations of the blocks. -/
theorem everyCommandGoesOn : Obligations.EveryCommandGoesOn := by
  intro c s
  cases c with
  -- the requests
  | status | readPallet | listTrack | readOrder | listOrders | readDispatchList | readProfile | readRecipe | readLanes
  | readZones | readWrappers | readSettings | newOrder | cancelOrder | closeOrder | authoriseRelease | bindLane
  | unbindLane | pauseLane | resumeLane | extendCutOff | decideHold | supplyProfile | removePallet | returnPallet
  | clearZone | confirmZone | restartLine | restoreWrapper | wrapperOffline | wrapperOnline | filmLoaded | restartWrap
  | releaseUnwrapped | restoreLabeller | inhibitHeads | setClock | defineProfile | deleteProfile | defineRecipe
  | deleteRecipe | setTiming | setSite | recoverSerials | resetController =>
    exact ⟨_, rfl, receive_pending (by simp [requests]) _ _ s⟩
  | unknownRequestKind kind tag body =>
    exact ⟨_, rfl, event_pending (goodFrame_pending _ (takeFrame_pending _ s))⟩
  -- the link
  | frameCheckFailed => exact ⟨_, rfl, event_pending (by simp)⟩
  | receiveOverrun => exact ⟨_, rfl, event_pending (pending_ite (by simp) rfl)⟩
  | byteGapTimeout => exact ⟨_, rfl, event_pending (by simp)⟩
  | heldFrameTaken => exact ⟨_, rfl, event_pending (takeHeld_pending s)⟩
  | frameSent => exact ⟨_, rfl, event_pending (frameEnds_pending s)⟩
  | linkByteReceived byte framingError => exact ⟨_, rfl, event_pending (takeByte_pending byte framingError s)⟩
  -- the resets, start-up and the clock
  | resetRequest => exact ⟨_, rfl, requestedReset_pending s⟩
  | powerOn => exact ⟨_, rfl, (powerOn_resets s).pending⟩
  | resetInput => exact ⟨_, rfl, assertReset_pending s⟩
  | powerLoss => exact ⟨_, rfl, (powerLoss_resets s).pending⟩
  | resetInputReleased => exact ⟨_, rfl, releaseReset_pending s⟩
  | startUpEnd => exact ⟨_, rfl, pending_ite (by simp) rfl⟩
  | clockTick => exact ⟨_, rfl, pending_ite rfl (by simp)⟩
  -- the inputs
  | keySwitchChange | chainOpens | chainCloses | eyeMade | eyeCleared | truckPresentChange =>
    exact ⟨_, rfl, input_pending _ (fun _ => by simp) s⟩
  -- the field arrivals
  | tagRead | weightReading | frameBegin | scanRow | frameEnd => exact ⟨_, rfl, arrival_pending (by simp)⟩
  -- the outcomes of a station's pass
  | stationDone w number =>
    exact ⟨_, rfl, event_pending (by simp [stationOutcome_pending w number (handle := passDone w) (by simp)])⟩
  | stationFilmBreak w number =>
    exact ⟨_, rfl, event_pending (by simp [stationOutcome_pending w number (handle := filmBreak w) (by simp)])⟩
  -- the other answers of the field devices, and the timers
  | tagTimerExpiry | moveTimerExpiry | departureTimeout | laneWaitTimerExpiry | minuteTimerExpiry | weightTimerExpiry
  | scanTimerExpiry | holdTimerExpiry | stationStatusReport | readerText | readerNoRead | readTimerExpiry
  | stationAccepted | stationFault | acceptanceTimerExpiry | passTimerExpiry | headApplied | headFault
  | applyTimerExpiry | storeWriteReport | writeTimerExpiry => exact ⟨_, rfl, event_pending (by simp)⟩

end Sys2Proof.Machine
